-- ==== Sys2Proof/Config.lean ====
section
/-!
DEFINITION. Config: the implementation parameters of the CORE (00_scope.md rule R5) that the
model reads, and the one parameter the spec leaves open (20_memory.md rule R31). No rule leaves a RESULT open, so there is no
free value of an instruction here.
-/

namespace Sys2Proof.Config

/-- K, the message width in bits (R5). -/
def messageWidth : Nat := 12

/-- N, the codeword width in bits (R5). -/
def codewordWidth : Nat := 24

/-- N - K, the width of a syndrome and of the parity part (R5). -/
def syndromeWidth : Nat := 12

/-- The width of CORRECT's input vector, one U flag over two 24-bit words (R49). -/
def correctVectorWidth : Nat := 49

/-- The number of ROM entries, one for each 12-bit syndrome (R5, R30). -/
def romDepth : Nat := 4096

/-- t, the weight up to which every error pattern is corrected (R5). -/
def correctionWeight : Nat := 3

/-- WORD_SERIALISATION: how a host serialises a word of w bits, 12 or 24, into bytes. The spec leaves it
open and says that no rule reads it (R31, D16), so it has no value here and nothing in the model reads it. -/
opaque wordSerialisation : (w : Nat) → BitVec w → List (BitVec 8)

end Sys2Proof.Config
end

