-- ==== Sys2Proof/Word.lean ====
section
/-!
DEFINITION. Word: the five data formats of 30_encoding.md section 1 as bit vectors. Bit 0 is the least
significant bit and every value is unsigned (00_scope.md rule R6).
-/

namespace Sys2Proof

/-- MSG12, a message (R43). -/
abbrev Msg := BitVec 12

/-- CW24, a codeword, received word, error pattern or corrected word (R44). -/
abbrev Word24 := BitVec 24

/-- SYN12, a syndrome and ROM index (R45). -/
abbrev Syn := BitVec 12

/-- LUTW25, a ROM entry: the U flag over the error pattern E (R46). -/
abbrev LutWord := BitVec 25

/-- STATUS2, the outcome of a correction (R47). -/
abbrev Status := BitVec 2

/-- A port of one bit (R24, R25). -/
abbrev Bit := BitVec 1

end Sys2Proof
end

