-- ==== Sys2Proof/Syntax.lean ====
section
/-!
DEFINITION. Syntax: the six operations of the CORE (30_encoding.md rule R49, spec/opcode_table.json), the
units that carry them, and the host's transaction, which names a unit and gives its input vector.
-/

namespace Sys2Proof

/-- One operation of the CORE with its operands (R49). A message, word or index operand is a `Nat`: a
model carrier that may be wider than the port. 00_scope.md rule R10 masks it to the port's width, and
`Instr.wellFormed` says that it already fits. The one-bit flag `cor_u` has exactly its port's width. -/
inductive Instr where
  /-- ENCODE, `enc_msg` (R54). -/
  | encode (encMsg : Nat)
  /-- SYNDROME, `syn_rx` (R56). -/
  | syndrome (synRx : Nat)
  /-- LOOKUP, `lut_s` (R66). -/
  | lookup (lutS : Nat)
  /-- CORRECT, `cor_u`, `cor_e`, `cor_rx` (R67). -/
  | correct (corU : Bit) (corE : Nat) (corRx : Nat)
  /-- EXTRACT, `ext_cw` (R70). -/
  | extract (extCw : Nat)
  /-- ECC, `rx_in` (R72). -/
  | ecc (rxIn : Nat)
deriving DecidableEq, Repr

/-- The units of R49's operation map, one for each operation. An operation is selected by WHICH unit's
inputs carry the values, not by any bit pattern (R49). -/
inductive CoreUnit where
  | golayEncoder
  | syndromeCalculator
  | syndromeLookupTable
  | errorCorrector
  | messageExtractor
  | decodeChannel
deriving DecidableEq, Repr

/-- One transaction of the host (R52): the unit it drives and the unit's input vector as a number, bit 0
least significant. The number may be wider than the vector (R10). -/
structure Transaction where
  /-- The unit whose inputs the host drives. -/
  unit : CoreUnit
  /-- The input vector (R49). -/
  vector : Nat
deriving DecidableEq, Repr

/-- Why an input vector WITHOUT a unit selects no operation. A transaction never meets this: with its unit
named, every vector selects that unit's one operation (R49, R50). -/
inductive DecodeError where
  /-- No input vector of the operation map has this many bits. -/
  | noPortOfWidth (nbits : Nat)
deriving DecidableEq, Repr

end Sys2Proof
end

