-- ==== Sys2Proof/WellFormed.lean ====
section
/-!
DEFINITION. WellFormed: an operation is well formed when each operand fits its port (10_state.md rules R22
to R27). An operation that is not well formed still runs: R10 masks the operand.
-/

namespace Sys2Proof

/-- The value fits a port of `width` bits. -/
def fitsPort (width n : Nat) : Bool := n < 2 ^ width

/-- Every operand fits its port (R48). -/
def Instr.wellFormed : Instr → Bool
  | .encode m => fitsPort Config.messageWidth m
  | .syndrome r => fitsPort Config.codewordWidth r
  | .lookup s => fitsPort Config.syndromeWidth s
  | .correct _ e r => fitsPort Config.codewordWidth e && fitsPort Config.codewordWidth r
  | .extract w => fitsPort Config.codewordWidth w
  | .ecc r => fitsPort Config.codewordWidth r

end Sys2Proof
end

