-- ==== Sys2Proof/Decode.lean ====
section
/-!
DEFINITION. Decode: from an input vector to an operation and back (30_encoding.md rules R48 to R50). The
spec's match and mask are 0 for every operation, so the UNIT selects the operation and the vector only
gives the operands. `decode` is therefore total and refuses nothing (R50). A vector without a unit is
read by `decodeVector`, which refuses by name a width that no input vector has.
-/

namespace Sys2Proof

/-- `trunc_w`: n mod 2^w (R6). -/
def lowBits (w n : Nat) : Nat := n % 2 ^ w

/-- The field of `w` bits whose lowest bit is bit `lo`. -/
def bitField (lo w n : Nat) : Nat := lowBits w (n >>> lo)

/-- The width of each unit's input vector (R49). -/
def CoreUnit.width : CoreUnit → Nat
  | .golayEncoder => Config.messageWidth
  | .syndromeCalculator => Config.codewordWidth
  | .syndromeLookupTable => Config.syndromeWidth
  | .errorCorrector => Config.correctVectorWidth
  | .messageExtractor => Config.codewordWidth
  | .decodeChannel => Config.codewordWidth

/-- The operation a transaction selects: the unit's own, with its operands cut from the input vector by
the fields of R49, high first (CORRECT: `u` is bit 48, `e` bits 47:24, `rx` bits 23:0). Bits above the
vector's width are masked (R10). -/
def decode (t : Transaction) : Instr :=
  match t.unit with
  | .golayEncoder => .encode (bitField 0 12 t.vector)
  | .syndromeCalculator => .syndrome (bitField 0 24 t.vector)
  | .syndromeLookupTable => .lookup (bitField 0 12 t.vector)
  | .errorCorrector =>
    .correct (BitVec.ofNat 1 (bitField 48 1 t.vector)) (bitField 24 24 t.vector) (bitField 0 24 t.vector)
  | .messageExtractor => .extract (bitField 0 24 t.vector)
  | .decodeChannel => .ecc (bitField 0 24 t.vector)

/-- The unit whose operation `i` is (R49). -/
def Instr.coreUnit : Instr → CoreUnit
  | .encode _ => .golayEncoder
  | .syndrome _ => .syndromeCalculator
  | .lookup _ => .syndromeLookupTable
  | .correct _ _ _ => .errorCorrector
  | .extract _ => .messageExtractor
  | .ecc _ => .decodeChannel

/-- The input vector of a well-formed operation: the concatenation of its input ports, high first (R49). -/
def Instr.vector : Instr → Nat
  | .encode m => m
  | .syndrome r => r
  | .lookup s => s
  | .correct u e r => u.toNat * 2 ^ 48 + e * 2 ^ 24 + r
  | .extract w => w
  | .ecc r => r

/-- The encoder: the transaction of a well-formed operation (R49, R52). -/
def encode (i : Instr) : Transaction := ⟨i.coreUnit, i.vector⟩

/-- The unit to which a vector WITHOUT a unit goes, by its width in bits or in whole bytes: the CORE's own
top-level input of that width (R27: `msg_in` of 12 bits, `rx_in` of 24), and the one input vector of 49
bits (R49). DESIGN CHOICE (log entry 5): the vector alone does not tell ENCODE from LOOKUP, nor SYNDROME,
EXTRACT and ECC from each other. -/
def unitOfWidth (nbits : Nat) : Option CoreUnit :=
  match nbits with
  | 12 => some .golayEncoder
  | 16 => some .golayEncoder
  | 24 => some .decodeChannel
  | 49 => some .errorCorrector
  | 56 => some .errorCorrector
  | _ => none

/-- The operation of a vector given without a unit, or why there is none. -/
def decodeVector (nbits w : Nat) : Except DecodeError Instr :=
  match unitOfWidth nbits with
  | some u => .ok (decode ⟨u, w⟩)
  | none => .error (.noPortOfWidth nbits)

/-- The operation the decoder reads from a table word, none where it refuses. -/
def decodeTableWord (nbits w : Nat) : Option Instr :=
  match decodeVector nbits w with
  | .ok i => some i
  | .error _ => none

end Sys2Proof
end

