-- ==== Sys2Proof/Machine/Flags.lean ====
section
/-!
DEFINITION. Flags: the CORE stores no flag (10_state.md rule R14). Its outcome signals are the combinational
outputs `cor_ok` and `cor_status` of the error_corrector, computed here (30_encoding.md rule R47,
43_error_corrector.md rule R67).
-/

namespace Sys2Proof.Machine

/-- CLEAN (R47). -/
def statusClean : Status := 0b00#2

/-- CORRECTED (R47). -/
def statusCorrected : Status := 0b01#2

/-- UNCORRECTABLE (R47). -/
def statusUncorrectable : Status := 0b10#2

/-- `cor_ok <- ~u` (R67). -/
def outcomeOk (u : Bit) : Bit := ~~~u

/-- `cor_status` (R67): the U flag is tested first, then E = 0. -/
def outcomeStatus (u : Bit) (e : Word24) : Status :=
  if u = 1#1 then statusUncorrectable
  else if e = 0#24 then statusClean
  else statusCorrected

end Sys2Proof.Machine
end

