-- ==== Sys2Proof/Machine/Gf2.lean ====
section
/-!
DEFINITION. Gf2: arithmetic over GF(2), 00_scope.md rules R7 and R8. It is the only arithmetic of the CORE.
-/

namespace Sys2Proof.Machine

/-- The number of set bits among the low `w` bits of `n`. -/
def popcountNat : Nat → Nat → Nat
  | 0, _ => 0
  | w + 1, n => n % 2 + popcountNat w (n / 2)

/-- `popcount(v)`, which the source calls the Hamming weight (R7). -/
def popcount {w : Nat} (v : BitVec w) : Nat := popcountNat w v.toNat

/-- `parity(v) = popcount(v) mod 2`, one bit (R7). -/
def parity {w : Nat} (v : BitVec w) : Bool := popcount v % 2 == 1

/-- The dot product of two vectors over GF(2): `parity(a & b)` (R7). -/
def dot {w : Nat} (a b : BitVec w) : Bool := parity (a &&& b)

/-- The w-bit value whose bit i is `f i` (R6). -/
def ofBits (f : Nat → Bool) : (w : Nat) → BitVec w
  | 0 => 0#0
  | w + 1 => BitVec.cons (f w) (ofBits f w)

/-- The row vector v times a matrix of n columns, given by its column masks:
`(v · M)[j] = parity(v & colmask_M(j))` (R8). -/
def vecMul {k : Nat} (v : BitVec k) (colmask : Nat → BitVec k) (n : Nat) : BitVec n :=
  ofBits (fun j => dot v (colmask j)) n

end Sys2Proof.Machine
end

