-- ==== Sys2Proof/Machine/Matrices.lean ====
section
/-!
DEFINITION. Matrices: the hardwired constants B, G and H (10_state.md section 3). They are wired into the
encoder and the syndrome logic and are not state (R17, R29).
-/

namespace Sys2Proof.Machine

/-- `B[i][j]` by the defining rule (R17), for i and j in 0..11. -/
def bRule (i j : Nat) : Bool :=
  if i < 11 ∧ j < 11 then i == j || [1, 3, 4, 5, 9].contains ((j + 11 - i) % 11)
  else !(i == 11 && j == 11)

/-- The row masks of B, row 0 first (the table of R18). -/
def rowmasksB : List (BitVec 12) :=
  [0xA3B#12, 0xC76#12, 0x8ED#12, 0x9DA#12, 0xBB4#12, 0xF68#12,
   0xED1#12, 0xDA3#12, 0xB47#12, 0xE8E#12, 0xD1D#12, 0x7FF#12]

/-- The column masks of B, column 0 first (the table of R18). -/
def colmasksB : List (BitVec 12) :=
  [0xDC5#12, 0xB8B#12, 0xF16#12, 0xE2D#12, 0xC5B#12, 0x8B7#12,
   0x96E#12, 0xADC#12, 0xDB8#12, 0xB71#12, 0xEE2#12, 0x7FF#12]

/-- `rowmask_B(i)`: bit j is `B[i][j]` (R8, R18). -/
def rowmaskB (i : Nat) : BitVec 12 := rowmasksB.getD i 0#12

/-- `colmask_B(j)`: bit i is `B[i][j]` (R8, R18). -/
def colmaskB (j : Nat) : BitVec 12 := colmasksB.getD j 0#12

/-- Row i of `G = [I|B]` as a mask: `Grow(i) = {rowmask_B(i), 1 << i}` (R20). -/
def gRow (i : Nat) : Word24 := rowmaskB i ++ (1#12 <<< i)

/-- Row k of `H = [Bᵀ|I]` as a mask: `Hrow(k) = {1 << k, colmask_B(k)}` (R21, 90_conflicts.md C2). -/
def hRow (k : Nat) : Word24 := (1#12 <<< k) ++ colmaskB k

end Sys2Proof.Machine
end

