-- ==== Sys2Proof/Machine/Operands.lean ====
section
/-!
DEFINITION. Operands: how an operation takes its operands (30_encoding.md rule R48). The only operand
transformation is the mask of a carrier wider than its port (00_scope.md rule R10); inside the CORE a
value is cut from a wider one only by the slices the rules write out.
-/

namespace Sys2Proof.Machine

/-- `trunc_12` of a message or of a ROM index (R10, R34). -/
def trunc12 (n : Nat) : BitVec 12 := BitVec.ofNat 12 n

/-- `trunc_24` of a codeword, received word or error pattern (R10). -/
def trunc24 (n : Nat) : Word24 := BitVec.ofNat 24 n

/-- The m-part, `w[11:0]` (R44). -/
def mPart (w : Word24) : Msg := w.extractLsb' 0 12

/-- The p-part, `w[23:12]` (R44). -/
def pPart (w : Word24) : BitVec 12 := w.extractLsb' 12 12

/-- The word `{p, m}` (R44). -/
def joinWord (p m : BitVec 12) : Word24 := p ++ m

/-- The U flag of a ROM entry, `x[24]` (R46). -/
def entryU (x : LutWord) : Bit := x.extractLsb' 24 1

/-- The error pattern of a ROM entry, `x[23:0]` (R46). -/
def entryE (x : LutWord) : Word24 := x.extractLsb' 0 24

/-- The ROM entry `{u, e}` (R46). -/
def joinEntry (u : Bit) (e : Word24) : LutWord := u ++ e

end Sys2Proof.Machine
end

