-- ==== Sys2Proof/Machine/RomImage.lean ====
section
/-!
DEFINITION. RomImage: the contents of the syndrome ROM, the image of 95_test_vectors.md section 4. Each
numeral is one line of the spec's listing: sixteen 7-digit entries, the entry of the lowest index first.
`Sys2Proof.Machine.romRule` (Machine/Rom.lean) is the defining rule of these contents, R59 by the loop of
R61, and `Sys2Proof.Laws.romContents_eq_romRule` proves that the image is what the rule gives.
-/

namespace Sys2Proof.Machine

/-- Entries 0x000 to 0x0FF (95_test_vectors.md section 4), sixteen entries a numeral. -/
def romBlock0 : List Nat :=
  [
0x0000000_0001000_0002000_0003000_0004000_0005000_0006000_0007000_0008000_0009000_000A000_000B000_000C000_000D000_000E000_1000000,
   0x0010000_0011000_0012000_0013000_0014000_0015000_0016000_1000000_0018000_0019000_001A000_1000000_001C000_1000000_1000000_0040240,
   0x0020000_0021000_0022000_0023000_0024000_0025000_0026000_1000000_0028000_0029000_002A000_1000000_002C000_1000000_1000000_0400120,
   0x0030000_0031000_0032000_1000000_0034000_1000000_1000000_010000C_0038000_1000000_1000000_0A00001_1000000_0000812_0080480_1000000,
   0x0040000_0041000_0042000_0043000_0044000_0045000_0046000_1000000_0048000_0049000_004A000_1000000_004C000_1000000_1000000_0010240,
   0x0050000_0051000_0052000_1000000_0054000_1000000_1000000_0008240_0058000_1000000_1000000_0004240_1000000_0002240_0001240_0000240,
   0x0060000_0061000_0062000_1000000_0064000_1000000_1000000_0000881_0068000_1000000_1000000_0100402_1000000_0880004_0200018_1000000,
   0x0070000_1000000_1000000_0080110_1000000_0200420_0C00002_1000000_1000000_0400088_0000824_1000000_0100101_1000000_1000000_0020240,
   0x0080000_0081000_0082000_0083000_0084000_0085000_0086000_1000000_0088000_0089000_008A000_1000000_008C000_1000000_1000000_0100011,
   0x0090000_0091000_0092000_1000000_0094000_1000000_1000000_0800820_0098000_1000000_1000000_0400006_1000000_0200108_0020480_1000000,
   0x00A0000_00A1000_00A2000_1000000_00A4000_1000000_1000000_0200042_00A8000_1000000_1000000_0000A08_1000000_0840004_0010480_1000000,
   0x00B0000_1000000_1000000_0040110_1000000_0400201_0008480_1000000_1000000_0100060_0004480_1000000_0002480_1000000_0000480_0001480,
   0x00C0000_00C1000_00C2000_1000000_00C4000_1000000_1000000_0400408_00C8000_1000000_1000000_02000A0_1000000_0820004_0000902_1000000,
   0x00D0000_1000000_1000000_0020110_1000000_0100082_0200005_1000000_1000000_0000C01_0900008_1000000_0400030_1000000_1000000_0080240,
   0x00E0000_1000000_1000000_0010110_1000000_0808004_0100220_1000000_1000000_0804004_0400041_1000000_0801004_0800004_1000000_0802004,
   0x1000000_0002110_0001110_0000110_0000848_1000000_1000000_0004110_0200202_1000000_1000000_0008110_1000000_0810004_0040480_1000000]

/-- Entries 0x100 to 0x1FF (95_test_vectors.md section 4), sixteen entries a numeral. -/
def romBlock1 : List Nat :=
  [
0x0100000_0101000_0102000_0103000_0104000_0105000_0106000_1000000_0108000_0109000_010A000_1000000_010C000_1000000_1000000_0080011,
   0x0110000_0111000_0112000_1000000_0114000_1000000_1000000_002000C_0118000_1000000_1000000_0000980_1000000_0C00400_0200022_1000000,
   0x0120000_0121000_0122000_1000000_0124000_1000000_1000000_001000C_0128000_1000000_1000000_0040402_1000000_0200280_0800840_1000000,
   0x0130000_1000000_1000000_000400C_1000000_000200C_000100C_000000C_1000000_0080060_0400210_1000000_0040101_1000000_1000000_000800C,
   0x0140000_0141000_0142000_1000000_0144000_1000000_1000000_0A00100_0148000_1000000_1000000_0020402_1000000_0000828_0400084_1000000,
   0x0150000_1000000_1000000_0400021_1000000_0080082_0000C10_1000000_1000000_0200014_0880008_1000000_0020101_1000000_1000000_0100240,
   0x0160000_1000000_1000000_0008402_1000000_0400050_0080220_1000000_1000000_0002402_0001402_0000402_0010101_1000000_1000000_0004402,
   0x1000000_0800A00_02000C0_1000000_0008101_1000000_1000000_004000C_0004101_1000000_1000000_0010402_0000101_0001101_0002101_1000000,
   0x0180000_0181000_0182000_1000000_0184000_1000000_1000000_0008011_0188000_1000000_1000000_0004011_1000000_0002011_0001011_0000011,
   0x0190000_1000000_1000000_0200600_1000000_0040082_0400140_1000000_1000000_0020060_0840008_1000000_0000A04_1000000_1000000_0010011,
   0x01A0000_1000000_1000000_0C00080_1000000_0000D00_0040220_1000000_1000000_0010060_0200104_1000000_040000A_1000000_1000000_0020011,
   0x1000000_0008060_0000803_1000000_0A00010_1000000_1000000_008000C_0001060_0000060_1000000_0002060_1000000_0004060_0100480_1000000,
   0x01C0000_1000000_1000000_0000844_1000000_0010082_0020220_1000000_1000000_0400300_0810008_1000000_0200440_1000000_1000000_0040011,
   0x1000000_0004082_0808008_1000000_0001082_0000082_1000000_0002082_0802008_1000000_0800008_0801008_1000000_0008082_0804008_1000000,
   0x1000000_0200009_0004220_1000000_0002220_1000000_0000220_0001220_0000890_1000000_1000000_0080402_1000000_0900004_0008220_1000000,
   0x0400404_1000000_1000000_0100110_1000000_0020082_0010220_1000000_1000000_0040060_0820008_1000000_0080101_1000000_1000000_0600800]

/-- Entries 0x200 to 0x2FF (95_test_vectors.md section 4), sixteen entries a numeral. -/
def romBlock2 : List Nat :=
  [
0x0200000_0201000_0202000_0203000_0204000_0205000_0206000_1000000_0208000_0209000_020A000_1000000_020C000_1000000_1000000_0000C04,
   0x0210000_0211000_0212000_1000000_0214000_1000000_1000000_0400090_0218000_1000000_1000000_0820001_1000000_0080108_0100022_1000000,
   0x0220000_0221000_0222000_1000000_0224000_1000000_1000000_0080042_0228000_1000000_1000000_0810001_1000000_0100280_0040018_1000000,
   0x0230000_1000000_1000000_0808001_1000000_0040420_0000B00_1000000_1000000_0802001_0801001_0800001_0400044_1000000_1000000_0804001,
   0x0240000_0241000_0242000_1000000_0244000_1000000_1000000_0900100_0248000_1000000_1000000_00800A0_1000000_0400003_0020018_1000000,
   0x0250000_1000000_1000000_000080A_1000000_0020420_0080005_1000000_1000000_0100014_0400500_1000000_0800880_1000000_1000000_0200240,
   0x0260000_1000000_1000000_0400204_1000000_0010420_0008018_1000000_1000000_0000940_0004018_1000000_0002018_1000000_0000018_0001018,
   0x1000000_0004420_01000C0_1000000_0001420_0000420_1000000_0002420_0080202_1000000_1000000_0840001_1000000_0008420_0010018_1000000,
   0x0280000_0281000_0282000_1000000_0284000_1000000_1000000_0020042_0288000_1000000_1000000_00400A0_1000000_0010108_0C00200_1000000,
   0x0290000_1000000_1000000_0100600_1000000_0008108_0040005_1000000_1000000_0004108_0000850_1000000_0001108_0000108_1000000_0002108,
   0x02A0000_1000000_1000000_0004042_1000000_0002042_0001042_0000042_1000000_0400410_0100104_1000000_0000821_1000000_1000000_0008042,
   0x1000000_0000884_0400028_1000000_0900010_1000000_1000000_0010042_0040202_1000000_1000000_0880001_1000000_0020108_0200480_1000000,
   0x02C0000_1000000_1000000_00080A0_1000000_0000A10_0010005_1000000_1000000_00020A0_00010A0_00000A0_0100440_1000000_1000000_00040A0,
   0x1000000_0C00040_0004005_1000000_0002005_1000000_0000005_0001005_0020202_1000000_1000000_00100A0_1000000_0040108_0008005_1000000,
   0x1000000_0100009_0800C00_1000000_0400180_1000000_1000000_0040042_0010202_1000000_1000000_00200A0_1000000_0A00004_0080018_1000000,
   0x0008202_1000000_1000000_0200110_1000000_0080420_0020005_1000000_0000202_0001202_0002202_1000000_0004202_1000000_1000000_0500800]

/-- Entries 0x300 to 0x3FF (95_test_vectors.md section 4), sixteen entries a numeral. -/
def romBlock3 : List Nat :=
  [
0x0300000_0301000_0302000_1000000_0304000_1000000_1000000_0840100_0308000_1000000_1000000_0400048_1000000_0020280_0010022_1000000,
   0x0310000_1000000_1000000_0080600_1000000_0000841_0008022_1000000_1000000_0040014_0004022_1000000_0002022_1000000_0000022_0001022,
   0x0320000_1000000_1000000_0000830_1000000_0008280_0400401_1000000_1000000_0004280_0080104_1000000_0001280_0000280_1000000_0002280,
   0x1000000_0400102_00400C0_1000000_0880010_1000000_1000000_020000C_0000C08_1000000_1000000_0900001_1000000_0010280_0020022_1000000,
   0x0340000_1000000_1000000_0804100_1000000_0802100_0801100_0800100_1000000_0010014_0000A01_1000000_0080440_1000000_1000000_0808100,
   0x1000000_0008014_00200C0_1000000_0400208_1000000_1000000_0810100_0001014_0000014_1000000_0002014_1000000_0004014_0040022_1000000,
   0x1000000_0080009_00100C0_1000000_0000806_1000000_1000000_0820100_0C00020_1000000_1000000_0200402_1000000_0040280_0100018_1000000,
   0x00020C0_1000000_00000C0_00010C0_1000000_0100420_00040C0_1000000_1000000_0020014_00080C0_1000000_0200101_1000000_1000000_0480800,
   0x0380000_1000000_1000000_0010600_1000000_0400024_0000888_1000000_1000000_0800802_0020104_1000000_0040440_1000000_1000000_0200011,
   0x1000000_0002600_0001600_0000600_0820010_1000000_1000000_0004600_0400081_1000000_1000000_0008600_1000000_0100108_0080022_1000000,
   0x1000000_0040009_0008104_1000000_0810010_1000000_1000000_0100042_0002104_1000000_0000104_0001104_1000000_0080280_0004104_1000000,
   0x0804010_1000000_1000000_0020600_0800010_0801010_0802010_1000000_1000000_0200060_0010104_1000000_0808010_1000000_1000000_0440800,
   0x1000000_0020009_0400012_1000000_0008440_1000000_1000000_0880100_0004440_1000000_1000000_01000A0_0000440_0001440_0002440_1000000,
   0x0000920_1000000_1000000_0040600_1000000_0200082_0100005_1000000_1000000_0080014_0A00008_1000000_0010440_1000000_1000000_0420800,
   0x0001009_0000009_1000000_0002009_1000000_0004009_0200220_1000000_1000000_0008009_0040104_1000000_0020440_1000000_1000000_0410800,
   0x1000000_0010009_00800C0_1000000_0840010_1000000_1000000_0408800_0100202_1000000_1000000_0404800_1000000_0402800_0401800_0400800]

/-- Entries 0x400 to 0x4FF (95_test_vectors.md section 4), sixteen entries a numeral. -/
def romBlock4 : List Nat :=
  [
0x0400000_0401000_0402000_0403000_0404000_0405000_0406000_1000000_0408000_0409000_040A000_1000000_040C000_1000000_1000000_0020120,
   0x0410000_0411000_0412000_1000000_0414000_1000000_1000000_0200090_0418000_1000000_1000000_0080006_1000000_0900400_0000809_1000000,
   0x0420000_0421000_0422000_1000000_0424000_1000000_1000000_0008120_0428000_1000000_1000000_0004120_1000000_0002120_0001120_0000120,
   0x0430000_1000000_1000000_0000C40_1000000_0080201_0840002_1000000_1000000_0040088_0100210_1000000_0200044_1000000_1000000_0010120,
   0x0440000_0441000_0442000_1000000_0444000_1000000_1000000_0080408_0448000_1000000_1000000_0800810_1000000_0200003_0100084_1000000,
   0x0450000_1000000_1000000_0100021_1000000_0000904_0820002_1000000_1000000_0020088_0200500_1000000_0080030_1000000_1000000_0400240,
   0x0460000_1000000_1000000_0200204_1000000_0100050_0810002_1000000_1000000_0010088_0080041_1000000_0000E00_1000000_1000000_0040120,
   0x1000000_0008088_0804002_1000000_0802002_1000000_0800002_0801002_0001088_0000088_1000000_0002088_1000000_0004088_0808002_1000000,
   0x0480000_0481000_0482000_1000000_0484000_1000000_1000000_0040408_0488000_1000000_1000000_0010006_1000000_00008C0_0A00200_1000000,
   0x0490000_1000000_1000000_0008006_1000000_0020201_0100140_1000000_1000000_0002006_0001006_0000006_0040030_1000000_1000000_0004006,
   0x04A0000_1000000_1000000_0900080_1000000_0010201_0000814_1000000_1000000_0200410_0040041_1000000_010000A_1000000_1000000_0080120,
   0x1000000_0004201_0200028_1000000_0001201_0000201_1000000_0002201_0800900_1000000_1000000_0020006_1000000_0008201_0400480_1000000,
   0x04C0000_1000000_1000000_0004408_1000000_0002408_0001408_0000408_1000000_0100300_0020041_1000000_0010030_1000000_1000000_0008408,
   0x1000000_0A00040_0000A80_1000000_0008030_1000000_1000000_0010408_0004030_1000000_1000000_0040006_0000030_0001030_0002030_1000000,
   0x1000000_0000822_0008041_1000000_0200180_1000000_1000000_0020408_0002041_1000000_0000041_0001041_1000000_0C00004_0004041_1000000,
   0x0100404_1000000_1000000_0400110_1000000_0040201_0880002_1000000_1000000_0080088_0010041_1000000_0020030_1000000_1000000_0300800]

/-- Entries 0x500 to 0x5FF (95_test_vectors.md section 4), sixteen entries a numeral. -/
def romBlock5 : List Nat :=
  [
0x0500000_0501000_0502000_1000000_0504000_1000000_1000000_0000A02_0508000_1000000_1000000_0200048_1000000_0810400_0040084_1000000,
   0x0510000_1000000_1000000_0040021_1000000_0808400_0080140_1000000_1000000_0804400_0020210_1000000_0801400_0800400_1000000_0802400,
   0x0520000_1000000_1000000_0880080_1000000_0040050_0200401_1000000_1000000_0000805_0010210_1000000_008000A_1000000_1000000_0100120,
   0x1000000_0200102_0008210_1000000_00008A0_1000000_1000000_040000C_0002210_1000000_0000210_0001210_1000000_0820400_0004210_1000000,
   0x0540000_1000000_1000000_0010021_1000000_0020050_0008084_1000000_1000000_0080300_0004084_1000000_0002084_1000000_0000084_0001084,
   0x1000000_0002021_0001021_0000021_0200208_1000000_1000000_0004021_0000842_1000000_1000000_0008021_1000000_0840400_0010084_1000000,
   0x1000000_0004050_0000908_1000000_0001050_0000050_1000000_0002050_0A00020_1000000_1000000_0400402_1000000_0008050_0020084_1000000,
   0x0080404_1000000_1000000_0020021_1000000_0010050_0900002_1000000_1000000_0100088_0040210_1000000_0400101_1000000_1000000_0280800,
   0x0580000_1000000_1000000_0820080_1000000_0200024_0010140_1000000_1000000_0040300_0000C20_1000000_002000A_1000000_1000000_0400011,
   0x1000000_0000818_0004140_1000000_0002140_1000000_0000140_0001140_0200081_1000000_1000000_0100006_1000000_0880400_0008140_1000000,
   0x1000000_0802080_0801080_0800080_000800A_1000000_1000000_0804080_000400A_1000000_1000000_0808080_000000A_000100A_000200A_1000000,
   0x0040404_1000000_1000000_0810080_1000000_0100201_0020140_1000000_1000000_0400060_0080210_1000000_001000A_1000000_1000000_0240800,
   0x1000000_0008300_0200012_1000000_0800801_1000000_1000000_0100408_0001300_0000300_1000000_0002300_1000000_0004300_0080084_1000000,
   0x0020404_1000000_1000000_0080021_1000000_0400082_0040140_1000000_1000000_0010300_0C00008_1000000_0100030_1000000_1000000_0220800,
   0x0010404_1000000_1000000_0840080_1000000_0080050_0400220_1000000_1000000_0020300_0100041_1000000_004000A_1000000_1000000_0210800,
   0x0000404_0001404_0002404_1000000_0004404_1000000_1000000_0208800_0008404_1000000_1000000_0204800_1000000_0202800_0201800_0200800]

/-- Entries 0x600 to 0x6FF (95_test_vectors.md section 4), sixteen entries a numeral. -/
def romBlock6 : List Nat :=
  [
0x0600000_0601000_0602000_1000000_0604000_1000000_1000000_0010090_0608000_1000000_1000000_0100048_1000000_0040003_0880200_1000000,
   0x0610000_1000000_1000000_0004090_1000000_0002090_0001090_0000090_1000000_0000A20_0040500_1000000_0020044_1000000_1000000_0008090,
   0x0620000_1000000_1000000_0040204_1000000_0800808_0100401_1000000_1000000_0080410_0000882_1000000_0010044_1000000_1000000_0200120,
   0x1000000_0100102_0080028_1000000_0008044_1000000_1000000_0020090_0004044_1000000_1000000_0C00001_0000044_0001044_0002044_1000000,
   0x0640000_1000000_1000000_0020204_1000000_0008003_0000860_1000000_1000000_0004003_0010500_1000000_0001003_0000003_1000000_0002003,
   0x1000000_0880040_0008500_1000000_0100208_1000000_1000000_0040090_0002500_1000000_0000500_0001500_1000000_0010003_0004500_1000000,
   0x1000000_0002204_0001204_0000204_0080180_1000000_1000000_0004204_0900020_1000000_1000000_0008204_1000000_0020003_0400018_1000000,
   0x0000811_1000000_1000000_0010204_1000000_0400420_0A00002_1000000_1000000_0200088_0020500_1000000_0040044_1000000_1000000_0180800,
   0x0680000_1000000_1000000_0000901_1000000_0100024_0808200_1000000_1000000_0020410_0804200_1000000_0802200_1000000_0800200_0801200,
   0x1000000_0840040_0020028_1000000_0000C02_1000000_1000000_0080090_0100081_1000000_1000000_0200006_1000000_0400108_0810200_1000000,
   0x1000000_0008410_0010028_1000000_0040180_1000000_1000000_0400042_0001410_0000410_1000000_0002410_1000000_0004410_0820200_1000000,
   0x0002028_1000000_0000028_0001028_1000000_0200201_0004028_1000000_1000000_0010410_0008028_1000000_0080044_1000000_1000000_0140800,
   0x1000000_0810040_0100012_1000000_0020180_1000000_1000000_0200408_000080C_1000000_1000000_04000A0_1000000_0080003_0840200_1000000,
   0x0801040_0800040_1000000_0802040_1000000_0804040_0400005_1000000_1000000_0808040_0080500_1000000_0200030_1000000_1000000_0120800,
   0x0004180_1000000_1000000_0080204_0000180_0001180_0002180_1000000_1000000_0040410_0200041_1000000_0008180_1000000_1000000_0110800,
   0x1000000_0820040_0040028_1000000_0010180_1000000_1000000_0108800_0400202_1000000_1000000_0104800_1000000_0102800_0101800_0100800]

/-- Entries 0x700 to 0x7FF (95_test_vectors.md section 4), sixteen entries a numeral. -/
def romBlock7 : List Nat :=
  [
0x0700000_1000000_1000000_0008048_1000000_0080024_0020401_1000000_1000000_0002048_0001048_0000048_0000910_1000000_1000000_0004048,
   0x1000000_0020102_0800804_1000000_0040208_1000000_1000000_0100090_0080081_1000000_1000000_0010048_1000000_0A00400_0400022_1000000,
   0x1000000_0010102_0004401_1000000_0002401_1000000_0000401_0001401_0840020_1000000_1000000_0020048_1000000_0400280_0008401_1000000,
   0x0001102_0000102_1000000_0002102_1000000_0004102_0010401_1000000_1000000_0008102_0200210_1000000_0100044_1000000_1000000_00C0800,
   0x1000000_0000C80_0080012_1000000_0010208_1000000_1000000_0C00100_0820020_1000000_1000000_0040048_1000000_0100003_0200084_1000000,
   0x0004208_1000000_1000000_0200021_0000208_0001208_0002208_1000000_1000000_0400014_0100500_1000000_0008208_1000000_1000000_00A0800,
   0x0808020_1000000_1000000_0100204_1000000_0200050_0040401_1000000_0800020_0801020_0802020_1000000_0804020_1000000_1000000_0090800,
   0x1000000_0040102_04000C0_1000000_0020208_1000000_1000000_0088800_0810020_1000000_1000000_0084800_1000000_0082800_0081800_0080800,
   0x1000000_0004024_0040012_1000000_0001024_0000024_1000000_0002024_0010081_1000000_1000000_0080048_1000000_0008024_0900200_1000000,
   0x0008081_1000000_1000000_0400600_1000000_0010024_0200140_1000000_0000081_0001081_0002081_1000000_0004081_1000000_1000000_0060800,
   0x0000A40_1000000_1000000_0A00080_1000000_0020024_0080401_1000000_1000000_0100410_0400104_1000000_020000A_1000000_1000000_0050800,
   0x1000000_0080102_0100028_1000000_0C00010_1000000_1000000_0048800_0020081_1000000_1000000_0044800_1000000_0042800_0041800_0040800,
   0x0002012_1000000_0000012_0001012_1000000_0040024_0004012_1000000_1000000_0200300_0008012_1000000_0400440_1000000_1000000_0030800,
   0x1000000_0900040_0010012_1000000_0080208_1000000_1000000_0028800_0040081_1000000_1000000_0024800_1000000_0022800_0021800_0020800,
   0x1000000_0400009_0020012_1000000_0100180_1000000_1000000_0018800_0880020_1000000_1000000_0014800_1000000_0012800_0011800_0010800,
   0x0200404_1000000_1000000_000C800_1000000_000A800_0009800_0008800_1000000_0006800_0005800_0004800_0003800_0002800_0001800_0000800]

/-- Entries 0x800 to 0x8FF (95_test_vectors.md section 4), sixteen entries a numeral. -/
def romBlock8 : List Nat :=
  [
0x0800000_0801000_0802000_0803000_0804000_0805000_0806000_1000000_0808000_0809000_080A000_1000000_080C000_1000000_1000000_000008A,
   0x0810000_0811000_0812000_1000000_0814000_1000000_1000000_0080820_0818000_1000000_1000000_0220001_1000000_0500400_0000114_1000000,
   0x0820000_0821000_0822000_1000000_0824000_1000000_1000000_0000610_0828000_1000000_1000000_0210001_1000000_00C0004_0100840_1000000,
   0x0830000_1000000_1000000_0208001_1000000_00001C0_0440002_1000000_1000000_0202001_0201001_0200001_0000228_1000000_1000000_0204001,
   0x0840000_0841000_0842000_1000000_0844000_1000000_1000000_0300100_0848000_1000000_1000000_0400810_1000000_00A0004_0000421_1000000,
   0x0850000_1000000_1000000_0000484_1000000_0000019_0420002_1000000_1000000_0000122_0180008_1000000_0200880_1000000_1000000_0800240,
   0x0860000_1000000_1000000_0000068_1000000_0088004_0410002_1000000_1000000_0084004_0000380_1000000_0081004_0080004_1000000_0082004,
   0x1000000_0100A00_0404002_1000000_0402002_1000000_0400002_0401002_0000450_1000000_1000000_0240001_1000000_0090004_0408002_1000000,
   0x0880000_0881000_0882000_1000000_0884000_1000000_1000000_0010820_0888000_1000000_1000000_0000540_1000000_0060004_0600200_1000000,
   0x0890000_1000000_1000000_0004820_1000000_0002820_0001820_0000820_1000000_0000290_0140008_1000000_0000043_1000000_1000000_0008820,
   0x08A0000_1000000_1000000_0500080_1000000_0048004_0000109_1000000_1000000_0044004_0000032_1000000_0041004_0040004_1000000_0042004,
   0x1000000_000040A_0000244_1000000_0300010_1000000_1000000_0020820_0400900_1000000_1000000_0280001_1000000_0050004_0800480_1000000,
   0x08C0000_1000000_1000000_0000203_1000000_0028004_00000D0_1000000_1000000_0024004_0110008_1000000_0021004_0020004_1000000_0022004,
   0x1000000_0600040_0108008_1000000_0000700_1000000_1000000_0040820_0102008_1000000_0100008_0101008_1000000_0030004_0104008_1000000,
   0x1000000_000C004_0200C00_1000000_0009004_0008004_1000000_000A004_0005004_0004004_1000000_0006004_0001004_0000004_0003004_0002004,
   0x00000A1_1000000_1000000_0800110_1000000_0018004_0480002_1000000_1000000_0014004_0120008_1000000_0011004_0010004_1000000_0012004]

/-- Entries 0x900 to 0x9FF (95_test_vectors.md section 4), sixteen entries a numeral. -/
def romBlock9 : List Nat :=
  [
0x0900000_0901000_0902000_1000000_0904000_1000000_1000000_0240100_0908000_1000000_1000000_0000224_1000000_0410400_0020840_1000000,
   0x0910000_1000000_1000000_0000052_1000000_0408400_0000281_1000000_1000000_0404400_00C0008_1000000_0401400_0400400_1000000_0402400,
   0x0920000_1000000_1000000_0480080_1000000_0000023_0008840_1000000_1000000_0000118_0004840_1000000_0002840_1000000_0000840_0001840,
   0x1000000_0040A00_0000520_1000000_0280010_1000000_1000000_080000C_0000086_1000000_1000000_0300001_1000000_0420400_0010840_1000000,
   0x0940000_1000000_1000000_0204100_1000000_0202100_0201100_0200100_1000000_00000C1_0090008_1000000_0000212_1000000_1000000_0208100,
   0x1000000_0020A00_0088008_1000000_0000064_1000000_1000000_0210100_0082008_1000000_0080008_0081008_1000000_0440400_0084008_1000000,
   0x1000000_0010A00_0000015_1000000_0000488_1000000_1000000_0220100_0600020_1000000_1000000_0800402_1000000_0180004_0040840_1000000,
   0x0001A00_0000A00_1000000_0002A00_1000000_0004A00_0500002_1000000_1000000_0008A00_00A0008_1000000_0800101_1000000_1000000_00000B0,
   0x0980000_1000000_1000000_0420080_1000000_0000248_0000406_1000000_1000000_0200802_0050008_1000000_00001A0_1000000_1000000_0800011,
   0x1000000_0000105_0048008_1000000_0220010_1000000_1000000_0100820_0042008_1000000_0040008_0041008_1000000_0480400_0044008_1000000,
   0x1000000_0402080_0401080_0400080_0210010_1000000_1000000_0404080_0000601_1000000_1000000_0408080_1000000_0140004_0080840_1000000,
   0x0204010_1000000_1000000_0410080_0200010_0201010_0202010_1000000_1000000_0800060_0060008_1000000_0208010_1000000_1000000_0000302,
   0x1000000_0000430_0018008_1000000_0400801_1000000_1000000_0280100_0012008_1000000_0010008_0011008_1000000_0120004_0014008_1000000,
   0x000A008_1000000_0008008_0009008_1000000_0800082_000C008_1000000_0002008_0003008_0000008_0001008_0006008_1000000_0004008_0005008,
   0x0000142_1000000_1000000_0440080_1000000_0108004_0800220_1000000_1000000_0104004_0030008_1000000_0101004_0100004_1000000_0102004,
   0x1000000_0080A00_0028008_1000000_0240010_1000000_1000000_0000441_0022008_1000000_0020008_0021008_1000000_0110004_0024008_1000000]

/-- Entries 0xA00 to 0xAFF (95_test_vectors.md section 4), sixteen entries a numeral. -/
def romBlockA : List Nat :=
  [
0x0A00000_0A01000_0A02000_1000000_0A04000_1000000_1000000_0140100_0A08000_1000000_1000000_0030001_1000000_0000070_0480200_1000000,
   0x0A10000_1000000_1000000_0028001_1000000_0000206_0000448_1000000_1000000_0022001_0021001_0020001_0040880_1000000_1000000_0024001,
   0x0A20000_1000000_1000000_0018001_1000000_0400808_00000A4_1000000_1000000_0012001_0011001_0010001_0000502_1000000_1000000_0014001,
   0x1000000_000A001_0009001_0008001_0180010_1000000_1000000_000C001_0003001_0002001_0001001_0000001_1000000_0006001_0005001_0004001,
   0x0A40000_1000000_1000000_0104100_1000000_0102100_0101100_0100100_1000000_0000608_0000046_1000000_0010880_1000000_1000000_0108100,
   0x1000000_0480040_0000230_1000000_0008880_1000000_1000000_0110100_0004880_1000000_1000000_0060001_0000880_0001880_0002880_1000000,
   0x1000000_0000092_0080C00_1000000_0000241_1000000_1000000_0120100_0500020_1000000_1000000_0050001_1000000_0280004_0800018_1000000,
   0x000010C_1000000_1000000_0048001_1000000_0800420_0600002_1000000_1000000_0042001_0041001_0040001_0020880_1000000_1000000_0044001,
   0x0A80000_1000000_1000000_000001C_1000000_0000481_0408200_1000000_1000000_0100802_0404200_1000000_0402200_1000000_0400200_0401200,
   0x1000000_0440040_0000182_1000000_0120010_1000000_1000000_0200820_0000424_1000000_1000000_00A0001_1000000_0800108_0410200_1000000,
   0x1000000_0000320_0040C00_1000000_0110010_1000000_1000000_0800042_00000C8_1000000_1000000_0090001_1000000_0240004_0420200_1000000,
   0x0104010_1000000_1000000_0088001_0100010_0101010_0102010_1000000_1000000_0082001_0081001_0080001_0108010_1000000_1000000_0084001,
   0x1000000_0410040_0020C00_1000000_000002A_1000000_1000000_0180100_0000111_1000000_1000000_08000A0_1000000_0220004_0440200_1000000,
   0x0401040_0400040_1000000_0402040_1000000_0404040_0800005_1000000_1000000_0408040_0300008_1000000_0080880_1000000_1000000_0000412,
   0x0002C00_1000000_0000C00_0001C00_1000000_0208004_0004C00_1000000_1000000_0204004_0008C00_1000000_0201004_0200004_1000000_0202004,
   0x1000000_0420040_0010C00_1000000_0140010_1000000_1000000_0000288_0800202_1000000_1000000_00C0001_1000000_0210004_0000160_1000000]

/-- Entries 0xB00 to 0xBFF (95_test_vectors.md section 4), sixteen entries a numeral. -/
def romBlockB : List Nat :=
  [
0x0B00000_1000000_1000000_0044100_1000000_0042100_0041100_0040100_1000000_0080802_0000490_1000000_000000D_1000000_1000000_0048100,
   0x1000000_00000A8_0400804_1000000_00A0010_1000000_1000000_0050100_0000340_1000000_1000000_0120001_1000000_0600400_0800022_1000000,
   0x1000000_0000444_000020A_1000000_0090010_1000000_1000000_0060100_0440020_1000000_1000000_0110001_1000000_0800280_0200840_1000000,
   0x0084010_1000000_1000000_0108001_0080010_0081010_0082010_1000000_1000000_0102001_0101001_0100001_0088010_1000000_1000000_0104001,
   0x1000000_0006100_0005100_0004100_0003100_0002100_0001100_0000100_0420020_1000000_1000000_000C100_1000000_000A100_0009100_0008100,
   0x0000403_1000000_1000000_0014100_1000000_0012100_0011100_0010100_1000000_0800014_0280008_1000000_0100880_1000000_1000000_0018100,
   0x0408020_1000000_1000000_0024100_1000000_0022100_0021100_0020100_0400020_0401020_0402020_1000000_0404020_1000000_1000000_0028100,
   0x1000000_0200A00_08000C0_1000000_00C0010_1000000_1000000_0030100_0410020_1000000_1000000_0140001_1000000_000004A_0000604_1000000,
   0x1000000_0008802_0000061_1000000_0030010_1000000_1000000_00C0100_0001802_0000802_1000000_0002802_1000000_0004802_0500200_1000000,
   0x0024010_1000000_1000000_0800600_0020010_0021010_0022010_1000000_1000000_0010802_0240008_1000000_0028010_1000000_1000000_00000C4,
   0x0014010_1000000_1000000_0600080_0010010_0011010_0012010_1000000_1000000_0020802_0800104_1000000_0018010_1000000_1000000_0000428,
   0x0004010_0005010_0006010_1000000_0000010_0001010_0002010_0003010_000C010_1000000_1000000_0180001_0008010_0009010_000A010_1000000,
   0x0000284_1000000_1000000_0084100_1000000_0082100_0081100_0080100_1000000_0040802_0210008_1000000_0800440_1000000_1000000_0088100,
   0x1000000_0500040_0208008_1000000_0060010_1000000_1000000_0090100_0202008_1000000_0200008_0201008_1000000_0000221_0204008_1000000,
   0x1000000_0800009_0100C00_1000000_0050010_1000000_1000000_00A0100_0480020_1000000_1000000_0000250_1000000_0300004_0000083_1000000,
   0x0044010_1000000_1000000_0000026_0040010_0041010_0042010_1000000_1000000_0000580_0220008_1000000_0048010_1000000_1000000_0C00800]

/-- Entries 0xC00 to 0xCFF (95_test_vectors.md section 4), sixteen entries a numeral. -/
def romBlockC : List Nat :=
  [
0x0C00000_0C01000_0C02000_1000000_0C04000_1000000_1000000_0000045_0C08000_1000000_1000000_0040810_1000000_0110400_0280200_1000000,
   0x0C10000_1000000_1000000_0000308_1000000_0108400_0060002_1000000_1000000_0104400_00000E0_1000000_0101400_0100400_1000000_0102400,
   0x0C20000_1000000_1000000_0180080_1000000_0200808_0050002_1000000_1000000_0000242_000040C_1000000_0000091_1000000_1000000_0800120,
   0x1000000_0000034_0044002_1000000_0042002_1000000_0040002_0041002_0080900_1000000_1000000_0600001_1000000_0120400_0048002_1000000,
   0x0C40000_1000000_1000000_0008810_1000000_00002A0_0030002_1000000_1000000_0002810_0001810_0000810_0000148_1000000_1000000_0004810,
   0x1000000_0280040_0024002_1000000_0022002_1000000_0020002_0021002_0000205_1000000_1000000_0010810_1000000_0140400_0028002_1000000,
   0x1000000_0000501_0014002_1000000_0012002_1000000_0010002_0011002_0300020_1000000_1000000_0020810_1000000_0480004_0018002_1000000,
   0x0006002_1000000_0004002_0005002_0002002_0003002_0000002_0001002_1000000_0800088_000C002_1000000_000A002_1000000_0008002_0009002,
   0x0C80000_1000000_1000000_0120080_1000000_0000112_0208200_1000000_1000000_0000029_0204200_1000000_0202200_1000000_0200200_0201200,
   0x1000000_0240040_0000411_1000000_000008C_1000000_1000000_0400820_0020900_1000000_1000000_0800006_1000000_0180400_0210200_1000000,
   0x1000000_0102080_0101080_0100080_0000460_1000000_1000000_0104080_0010900_1000000_1000000_0108080_1000000_0440004_0220200_1000000,
   0x0008900_1000000_1000000_0110080_1000000_0800201_00C0002_1000000_0000900_0001900_0002900_1000000_0004900_1000000_1000000_0000058,
   0x1000000_0210040_0000124_1000000_0100801_1000000_1000000_0800408_0000482_1000000_1000000_0080810_1000000_0420004_0240200_1000000,
   0x0201040_0200040_1000000_0202040_1000000_0204040_00A0002_1000000_1000000_0208040_0500008_1000000_0800030_1000000_1000000_0000181,
   0x0000218_1000000_1000000_0140080_1000000_0408004_0090002_1000000_1000000_0404004_0800041_1000000_0401004_0400004_1000000_0402004,
   0x1000000_0220040_0084002_1000000_0082002_1000000_0080002_0081002_0040900_1000000_1000000_0000620_1000000_0410004_0088002_1000000]

/-- Entries 0xD00 to 0xDFF (95_test_vectors.md section 4), sixteen entries a numeral. -/
def romBlockD : List Nat :=
  [
0x0D00000_1000000_1000000_00A0080_1000000_0018400_0000038_1000000_1000000_0014400_0000103_1000000_0011400_0010400_1000000_0012400,
   0x1000000_000C400_0200804_1000000_0009400_0008400_1000000_000A400_0005400_0004400_1000000_0006400_0001400_0000400_0003400_0002400,
   0x1000000_0082080_0081080_0080080_0000304_1000000_1000000_0084080_0240020_1000000_1000000_0088080_1000000_0030400_0400840_1000000,
   0x0000049_1000000_1000000_0090080_1000000_0028400_0140002_1000000_1000000_0024400_0800210_1000000_0021400_0020400_1000000_0022400,
   0x1000000_000000E_0000640_1000000_0080801_1000000_1000000_0600100_0220020_1000000_1000000_0100810_1000000_0050400_0800084_1000000,
   0x0000190_1000000_1000000_0800021_1000000_0048400_0120002_1000000_1000000_0044400_0480008_1000000_0041400_0040400_1000000_0042400,
   0x0208020_1000000_1000000_00C0080_1000000_0800050_0110002_1000000_0200020_0201020_0202020_1000000_0204020_1000000_1000000_0000209,
   0x1000000_0400A00_0104002_1000000_0102002_1000000_0100002_0101002_0210020_1000000_1000000_0000144_1000000_0060400_0108002_1000000,
   0x1000000_0022080_0021080_0020080_0040801_1000000_1000000_0024080_0000054_1000000_1000000_0028080_1000000_0090400_0300200_1000000,
   0x0000222_1000000_1000000_0030080_1000000_0088400_0800140_1000000_1000000_0084400_0440008_1000000_0081400_0080400_1000000_0082400,
   0x0003080_0002080_0001080_0000080_1000000_0006080_0005080_0004080_1000000_000A080_0009080_0008080_080000A_1000000_1000000_000C080,
   0x1000000_0012080_0011080_0010080_0600010_1000000_1000000_0014080_0100900_1000000_1000000_0018080_1000000_00A0400_0000025_1000000,
   0x0004801_1000000_1000000_0060080_0000801_0001801_0002801_1000000_1000000_0800300_0410008_1000000_0008801_1000000_1000000_0000062,
   0x1000000_0300040_0408008_1000000_0010801_1000000_1000000_0000214_0402008_1000000_0400008_0401008_1000000_00C0400_0404008_1000000,
   0x1000000_0042080_0041080_0040080_0020801_1000000_1000000_0044080_0280020_1000000_1000000_0048080_1000000_0500004_0000510_1000000,
   0x0800404_1000000_1000000_0050080_1000000_0000128_0180002_1000000_1000000_0000013_0420008_1000000_00002C0_1000000_1000000_0A00800]

/-- Entries 0xE00 to 0xEFF (95_test_vectors.md section 4), sixteen entries a numeral. -/
def romBlockE : List Nat :=
  [
0x0E00000_1000000_1000000_0000422_1000000_0020808_0088200_1000000_1000000_0000184_0084200_1000000_0082200_1000000_0080200_0081200,
   0x1000000_00C0040_0100804_1000000_0000121_1000000_1000000_0800090_000001A_1000000_1000000_0420001_1000000_0300400_0090200_1000000,
   0x1000000_0004808_0000150_1000000_0001808_0000808_1000000_0002808_0140020_1000000_1000000_0410001_1000000_0008808_00A0200_1000000,
   0x0000680_1000000_1000000_0408001_1000000_0010808_0240002_1000000_1000000_0402001_0401001_0400001_0800044_1000000_1000000_0404001,
   0x1000000_0090040_0000089_1000000_0000414_1000000_1000000_0500100_0120020_1000000_1000000_0200810_1000000_0800003_00C0200_1000000,
   0x0081040_0080040_1000000_0082040_1000000_0084040_0220002_1000000_1000000_0088040_0800500_1000000_0400880_1000000_1000000_000002C,
   0x0108020_1000000_1000000_0800204_1000000_0040808_0210002_1000000_0100020_0101020_0102020_1000000_0104020_1000000_1000000_00004C0,
   0x1000000_00A0040_0204002_1000000_0202002_1000000_0200002_0201002_0110020_1000000_1000000_0440001_1000000_0000310_0208002_1000000,
   0x1000000_0050040_000C200_1000000_000A200_1000000_0008200_0009200_0006200_1000000_0004200_0005200_0002200_0003200_0000200_0001200,
   0x0041040_0040040_1000000_0042040_1000000_0044040_0018200_1000000_1000000_0048040_0014200_1000000_0012200_1000000_0010200_0011200,
   0x0000007_1000000_1000000_0300080_1000000_0080808_0028200_1000000_1000000_0800410_0024200_1000000_0022200_1000000_0020200_0021200,
   0x1000000_0060040_0800028_1000000_0500010_1000000_1000000_0000504_0200900_1000000_1000000_0480001_1000000_00000A2_0030200_1000000,
   0x0011040_0010040_1000000_0012040_1000000_0014040_0048200_1000000_1000000_0018040_0044200_1000000_0042200_1000000_0040200_0041200,
   0x0001040_0000040_0003040_0002040_0005040_0004040_1000000_0006040_0009040_0008040_1000000_000A040_1000000_000C040_0050200_1000000,
   0x1000000_0030040_0400C00_1000000_0800180_1000000_1000000_0000031_0180020_1000000_1000000_000010A_1000000_0600004_0060200_1000000,
   0x0021040_0020040_1000000_0022040_1000000_0024040_0280002_1000000_1000000_0028040_0000094_1000000_0000409_1000000_1000000_0900800]

/-- Entries 0xF00 to 0xFFF (95_test_vectors.md section 4), sixteen entries a numeral. -/
def romBlockF : List Nat :=
  [
0x1000000_0000211_0010804_1000000_00000C2_1000000_1000000_0440100_0060020_1000000_1000000_0800048_1000000_0210400_0180200_1000000,
   0x0002804_1000000_0000804_0001804_1000000_0208400_0004804_1000000_1000000_0204400_0008804_1000000_0201400_0200400_1000000_0202400,
   0x0048020_1000000_1000000_0280080_1000000_0100808_0800401_1000000_0040020_0041020_0042020_1000000_0044020_1000000_1000000_0000016,
   0x1000000_0800102_0020804_1000000_0480010_1000000_1000000_0000260_0050020_1000000_1000000_0500001_1000000_0220400_0000188_1000000,
   0x0028020_1000000_1000000_0404100_1000000_0402100_0401100_0400100_0020020_0021020_0022020_1000000_0024020_1000000_1000000_0408100,
   0x1000000_0180040_0040804_1000000_0800208_1000000_1000000_0410100_0030020_1000000_1000000_0000282_1000000_0240400_0000051_1000000,
   0x0008020_0009020_000A020_1000000_000C020_1000000_1000000_0420100_0000020_0001020_0002020_0003020_0004020_0005020_0006020_1000000,
   0x0018020_1000000_1000000_0000418_1000000_0000085_0300002_1000000_0010020_0011020_0012020_1000000_0014020_1000000_1000000_0880800,
   0x0000508_1000000_1000000_0220080_1000000_0800024_0108200_1000000_1000000_0400802_0104200_1000000_0102200_1000000_0100200_0101200,
   0x1000000_0140040_0080804_1000000_0420010_1000000_1000000_000000B_0800081_1000000_1000000_0000130_1000000_0280400_0110200_1000000,
   0x1000000_0202080_0201080_0200080_0410010_1000000_1000000_0204080_00C0020_1000000_1000000_0208080_1000000_0000141_0120200_1000000,
   0x0404010_1000000_1000000_0210080_0400010_0401010_0402010_1000000_1000000_000020C_0000442_1000000_0408010_1000000_1000000_0840800,
   0x1000000_0110040_0800012_1000000_0200801_1000000_1000000_0480100_00A0020_1000000_1000000_0000405_1000000_0000098_0140200_1000000,
   0x0101040_0100040_1000000_0102040_1000000_0104040_00004A0_1000000_1000000_0108040_0600008_1000000_0000106_1000000_1000000_0820800,
   0x0088020_1000000_1000000_0240080_1000000_0000602_000004C_1000000_0080020_0081020_0082020_1000000_0084020_1000000_1000000_0810800,
   0x1000000_0120040_0000301_1000000_0440010_1000000_1000000_0808800_0090020_1000000_1000000_0804800_1000000_0802800_0801800_0800800]

/-- The lines of the image whose index begins with the hex digit `h`. -/
def romBlock (h : Nat) : List Nat :=
  match h with
  | 0 => romBlock0 | 1 => romBlock1 | 2 => romBlock2 | 3 => romBlock3
  | 4 => romBlock4 | 5 => romBlock5 | 6 => romBlock6 | 7 => romBlock7
  | 8 => romBlock8 | 9 => romBlock9 | 10 => romBlockA | 11 => romBlockB
  | 12 => romBlockC | 13 => romBlockD | 14 => romBlockE | _ => romBlockF

/-- Entry n of the image, n below 4096: in line n/16, the (n mod 16)-th group of 28 bits from the left. -/
def romImage (n : Nat) : LutWord :=
  BitVec.ofNat 25 ((romBlock (n / 256)).getD (n / 16 % 16) 0 >>> (28 * (15 - n % 16)))

/-- `ROM[s]`, the entry the ROM holds at index s (R34, R58, R59). -/
def romContents (s : Syn) : LutWord := romImage s.toNat

end Sys2Proof.Machine
end

