-- ==== Sys2Proof/Machine/State.lean ====
section
/-!
DEFINITION. State: everything the spec gives the machine. The CORE's only storage is the syndrome ROM
(10_state.md rule R16). Beside it stand the values on the ports of R22 to R27 for the evaluations done
last (70_reset_and_hazards.md rule R98: an evaluation is one atomic step), and the host's transactions
that are still to be evaluated (R52, R100). There is no register, program counter, flag or control
register to hold (R12 to R15).
-/

namespace Sys2Proof.Machine

/-- The golay_encoder's ports (R22). They are also the CORE's `msg_in` and `cw_out`, which R27 wires to
them and which nothing else drives. -/
structure EncoderPorts where
  /-- `enc_msg`, in, 12 bits. -/
  encMsg : Msg
  /-- `enc_cw`, out, 24 bits. -/
  encCw : Word24
deriving DecidableEq, Repr

/-- The syndrome_calculator's ports (R23). -/
structure SyndromePorts where
  /-- `syn_rx`, in, 24 bits. -/
  synRx : Word24
  /-- `syn_s`, out, 12 bits. -/
  synS : Syn
deriving DecidableEq, Repr

/-- The syndrome_lookup_table's ports (R24). -/
structure LookupPorts where
  /-- `lut_s`, in, 12 bits. -/
  lutS : Syn
  /-- `lut_u`, out, 1 bit. -/
  lutU : Bit
  /-- `lut_e`, out, 24 bits. -/
  lutE : Word24
deriving DecidableEq, Repr

/-- The error_corrector's ports (R25). -/
structure CorrectorPorts where
  /-- `cor_rx`, in, 24 bits. -/
  corRx : Word24
  /-- `cor_u`, in, 1 bit. -/
  corU : Bit
  /-- `cor_e`, in, 24 bits. -/
  corE : Word24
  /-- `cor_cw`, out, 24 bits. -/
  corCw : Word24
  /-- `cor_ok`, out, 1 bit. -/
  corOk : Bit
  /-- `cor_status`, out, 2 bits. -/
  corStatus : Status
deriving DecidableEq, Repr

/-- The message_extractor's ports (R26). -/
structure ExtractorPorts where
  /-- `ext_cw`, in, 24 bits. -/
  extCw : Word24
  /-- `ext_msg`, out, 12 bits. -/
  extMsg : Msg
deriving DecidableEq, Repr

/-- The CORE's decode channel (R27): its ports, and the internal nets from the lookup table to the error
corrector. The other internal nets carry a port's value and are read through it (`ChannelPorts.lutS`,
`ChannelPorts.extCw` and the others in Machine/Ops.lean). -/
structure ChannelPorts where
  /-- `rx_in`, in, 24 bits. -/
  rxIn : Word24
  /-- `syndrome_out`, out, 12 bits. -/
  syndromeOut : Syn
  /-- The net `cor_u <- lut_u`, 1 bit. -/
  netU : Bit
  /-- The net `cor_e <- lut_e`, 24 bits. -/
  netE : Word24
  /-- `corrected_out`, out, 24 bits. -/
  correctedOut : Word24
  /-- `ok_out`, out, 1 bit. -/
  okOut : Bit
  /-- `status_out`, out, 2 bits. -/
  statusOut : Status
  /-- `msg_out`, out, 12 bits. -/
  msgOut : Msg
deriving DecidableEq, Repr

/-- One listed ROM entry: an index and its 25-bit word. The space is word-addressed and has no bytes
(R30, R31), so this cell is wider than the host's byte cell (log entry 2). -/
abbrev RomCell := Nat × LutWord

/-- The state of the machine. -/
structure State where
  /-- The syndrome ROM (R16), as the entries that DIFFER from the contents R59 fixes. Those contents are
  what an unlisted index reads as. The hardware's ROM lists nothing and nothing writes it (R36). -/
  rom : List RomCell
  /-- golay_encoder, and with it the CORE's encode channel (R22, R27). -/
  encoder : EncoderPorts
  /-- syndrome_calculator used as a unit (R23). -/
  syndrome : SyndromePorts
  /-- syndrome_lookup_table used as a unit (R24). -/
  lookup : LookupPorts
  /-- error_corrector used as a unit (R25). -/
  corrector : CorrectorPorts
  /-- message_extractor used as a unit (R26). -/
  extractor : ExtractorPorts
  /-- The CORE's decode channel (R27). -/
  channel : ChannelPorts
  /-- The host's transactions still to be evaluated, next first (R52, R100). The MODEL's own field: the
  host's program, not state of the CORE (log entry 4). -/
  pending : List Transaction
deriving DecidableEq, Repr

/-- Why a step stops with a fault. No state that a run from reset reaches raises one: it needs a ROM that
lists an entry, and nothing writes the ROM (R36). -/
inductive Fault where
  /-- Raised by a ROM read (LOOKUP, ECC) whose index holds a RESERVED word, U = 1 with E ≠ 0 or U = 0
  with weight(E) ≥ 4. 93_implementation_defined.md X1 and X2: a ROM holding one is a model bug, `fault`.
  Safe. -/
  | romReservedEntry
deriving DecidableEq, Repr

/-- Why a step has no meaning. -/
inductive Refusal where
  /-- Raised by an arm of `exec` whose instruction has no meaning yet. No arm does. Safe. -/
  | notModelled (mnemonic : String)
  /-- Raised by a ROM read (LOOKUP, ECC) whose index holds a word of legal form that is not the one R59
  fixes. R97: such outputs are outside the spec, and a model must not treat them as values. Safe. -/
  | romOutsideSpec
deriving DecidableEq, Repr

/-- The machine after reset. Reset does not exist and changes nothing (R95): the ROM holds the contents of
R59, so it lists nothing, and no transaction is pending. Every input port holds 0 (DESIGN CHOICE, log
entry 3), and every output is the function of its inputs that its rule gives (R29). -/
def State.reset : State where
  rom := []
  encoder := ⟨0#12, 0#24⟩
  syndrome := ⟨0#24, 0#12⟩
  lookup := ⟨0#12, 0#1, 0#24⟩
  corrector := ⟨0#24, 0#1, 0#24, 0#24, 1#1, 0b00#2⟩
  extractor := ⟨0#24, 0#12⟩
  channel := ⟨0#24, 0#12, 0#1, 0#24, 0#24, 1#1, 0b00#2, 0#12⟩
  pending := []

end Sys2Proof.Machine
end

