-- ==== Sys2Proof/Machine/Ops.lean ====
section
/-!
DEFINITION. Ops: the shared operations. The functions of the five units, the one memory access (a read of the
ROM), and the updates of the ports. TAKING AN EXCEPTION and returning from one have no operation here
because the CORE has neither: no operation raises an exception, saves a state, changes a mode or takes a
vector (60_exceptions.md rules R83, R87, R88). The Detected-Uncorrectable outcome is data (R84).
-/

namespace Sys2Proof.Machine

/-- golay_encoder: `{m · B, m}`, parity bit j being `parity(m & colmask_B(j))` (R54). -/
def encodeWord (m : Msg) : Word24 := joinWord (vecMul m colmaskB 12) m

/-- syndrome_calculator: `r · Hᵀ`, bit k being `parity(r & Hrow(k))` (R56). -/
def syndromeOf (r : Word24) : Syn := vecMul r hRow 12

/-- error_corrector's `cor_cw`: the received word unchanged when U = 1 (the spec's decision D8), else the
received word with the error pattern XORed in (R67). -/
def correctedWord (r : Word24) (u : Bit) (e : Word24) : Word24 := if u = 1#1 then r else r ^^^ e

/-- message_extractor: the m-part, whatever the p-part is (R70, R71). -/
def extractMsg (w : Word24) : Msg := mPart w

/-- The sentinel entry UNCORRECTABLE, U = 1 and E = 0 (R46). -/
def sentinel : LutWord := joinEntry 1#1 0#24

/-- A reserved LUTW25 word: U = 1 with E ≠ 0, or U = 0 with weight(E) ≥ 4 (R46, R50). -/
def isReservedEntry (x : LutWord) : Bool :=
  if entryU x = 1#1 then entryE x != 0#24
  else Config.correctionWeight < popcount (entryE x)

/-- The word a ROM lists for an index, none where it lists nothing. -/
def romListed : List RomCell → Nat → Option LutWord
  | [], _ => none
  | (a, x) :: rest, i => if a = i then some x else romListed rest i

/-- `MemRead(s, 1)` (R34), the only access to memory. An index the ROM does not list holds `ROM[s]`. A
listed word is not the ROM of this hardware: a reserved word faults (93_implementation_defined.md X1,
X2), any other that differs from `ROM[s]` is outside the spec (R97). -/
def memRead (rom : List RomCell) (s : Syn) : Host.Outcome LutWord Fault Refusal :=
  match romListed rom s.toNat with
  | none => .next (romContents s)
  | some x =>
    if x = romContents s then .next x
    else if isReservedEntry x then .fault .romReservedEntry
    else .refused .romOutsideSpec

/-- The indices of a ROM listing are above `low`, strictly rising and below the ROM's depth, and no entry
equals what an unlisted index reads as. -/
def Memory.wfFrom (low : Nat) : List RomCell → Bool
  | [] => true
  | (a, x) :: rest =>
    low ≤ a && a < Config.romDepth && x != romImage a && Memory.wfFrom (a + 1) rest

/-- The canonical form of a ROM listing. No operation writes the ROM (R36), so every operation keeps it. -/
def Memory.wf (rom : List RomCell) : Bool := Memory.wfFrom 0 rom

/-- The golay_encoder's ports with `m` driven (R22, R54). -/
def encoderPorts (m : Msg) : EncoderPorts := ⟨m, encodeWord m⟩

/-- The syndrome_calculator's ports with `r` driven (R23, R56). -/
def syndromePorts (r : Word24) : SyndromePorts := ⟨r, syndromeOf r⟩

/-- The syndrome_lookup_table's ports with `s` driven and the entry `x` read (R24, R66). -/
def lookupPorts (s : Syn) (x : LutWord) : LookupPorts := ⟨s, entryU x, entryE x⟩

/-- The error_corrector's ports with `r`, `u` and `e` driven (R25, R67). It is defined for every input, the
reserved ones of R69 among them. -/
def correctorPorts (r : Word24) (u : Bit) (e : Word24) : CorrectorPorts :=
  ⟨r, u, e, correctedWord r u e, outcomeOk u, outcomeStatus u e⟩

/-- The message_extractor's ports with `w` driven (R26, R70). -/
def extractorPorts (w : Word24) : ExtractorPorts := ⟨w, extractMsg w⟩

/-- The decode channel with `rx_in` driven and the entry `x` read at the syndrome: SYNDROME, LOOKUP, CORRECT
and EXTRACT wired as R27 wires them (R72, R73). -/
def channelPorts (r : Word24) (x : LutWord) : ChannelPorts :=
  let c := correctorPorts r (entryU x) (entryE x)
  { rxIn := r
    syndromeOut := syndromeOf r
    netU := entryU x
    netE := entryE x
    correctedOut := c.corCw
    okOut := c.corOk
    statusOut := c.corStatus
    msgOut := extractMsg c.corCw }

/-- The channel's internal net `syn_rx`, driven by `rx_in` (R27). -/
def ChannelPorts.synRx (c : ChannelPorts) : Word24 := c.rxIn

/-- The channel's internal net `cor_rx`, driven by `rx_in` (R27). -/
def ChannelPorts.corRx (c : ChannelPorts) : Word24 := c.rxIn

/-- The channel's internal net `lut_s <- syn_s`, which also drives `syndrome_out` (R27). -/
def ChannelPorts.lutS (c : ChannelPorts) : Syn := c.syndromeOut

/-- The channel's internal net `ext_cw <- cor_cw`, which also drives `corrected_out` (R27). -/
def ChannelPorts.extCw (c : ChannelPorts) : Word24 := c.correctedOut

/-- The CORE port `msg_in`, which drives `enc_msg` (R27). -/
def State.msgIn (s : State) : Msg := s.encoder.encMsg

/-- The CORE port `cw_out`, driven by `enc_cw` (R27). -/
def State.cwOut (s : State) : Word24 := s.encoder.encCw

/-- The state with the golay_encoder's ports replaced. -/
def State.setEncoder (s : State) (p : EncoderPorts) : State := { s with encoder := p }

/-- The state with the syndrome_calculator's ports replaced. -/
def State.setSyndrome (s : State) (p : SyndromePorts) : State := { s with syndrome := p }

/-- The state with the syndrome_lookup_table's ports replaced. -/
def State.setLookup (s : State) (p : LookupPorts) : State := { s with lookup := p }

/-- The state with the error_corrector's ports replaced. -/
def State.setCorrector (s : State) (p : CorrectorPorts) : State := { s with corrector := p }

/-- The state with the message_extractor's ports replaced. -/
def State.setExtractor (s : State) (p : ExtractorPorts) : State := { s with extractor := p }

/-- The state with the decode channel's ports replaced. -/
def State.setChannel (s : State) (p : ChannelPorts) : State := { s with channel := p }

/-- The state with the host's pending transactions replaced. -/
def State.setPending (s : State) (ts : List Transaction) : State := { s with pending := ts }

end Sys2Proof.Machine
end

