-- ==== Sys2Proof/Machine/Channel.lean ====
section
/-!
DEFINITION. Channel: the meaning of ECC, the decode channel (45_ecc_pipeline.md).
-/

namespace Sys2Proof.Machine

/-- ECC (R72, R73): drives `rx_in` with the operand, masked to 24 bits (R10). The ROM is read at the
syndrome of the received word. -/
def execEcc (rxIn : Nat) (s : State) : Host.Outcome State Fault Refusal :=
  match memRead s.rom (syndromeOf (trunc24 rxIn)) with
  | .next x => .next (s.setChannel (channelPorts (trunc24 rxIn) x))
  | .fault f => .fault f
  | .refused r => .refused r

end Sys2Proof.Machine
end

