-- ==== Sys2Proof/Machine/Corrector.lean ====
section
/-!
DEFINITION. Corrector: the meaning of CORRECT (43_error_corrector.md).
-/

namespace Sys2Proof.Machine

/-- CORRECT (R67, R69): drives `cor_u`, `cor_e` and `cor_rx` with the operands, the two words masked to 24
bits (R10). No combination of U and E is refused. -/
def execCorrect (corU : Bit) (corE corRx : Nat) (s : State) : Host.Outcome State Fault Refusal :=
  .next (s.setCorrector (correctorPorts (trunc24 corRx) corU (trunc24 corE)))

end Sys2Proof.Machine
end

