-- ==== Sys2Proof/Machine/Encoder.lean ====
section
/-!
DEFINITION. Encoder: the meaning of ENCODE (40_encoder.md).
-/

namespace Sys2Proof.Machine

/-- ENCODE (R54): drives `enc_msg` with the operand, masked to 12 bits (R10). -/
def execEncode (encMsg : Nat) (s : State) : Host.Outcome State Fault Refusal :=
  .next (s.setEncoder (encoderPorts (trunc12 encMsg)))

end Sys2Proof.Machine
end

