-- ==== Sys2Proof/Machine/Extractor.lean ====
section
/-!
DEFINITION. Extractor: the meaning of EXTRACT (44_message_extractor.md).
-/

namespace Sys2Proof.Machine

/-- EXTRACT (R70, R71): drives `ext_cw` with the operand, masked to 24 bits (R10). -/
def execExtract (extCw : Nat) (s : State) : Host.Outcome State Fault Refusal :=
  .next (s.setExtractor (extractorPorts (trunc24 extCw)))

end Sys2Proof.Machine
end

