-- ==== Sys2Proof/Machine/Lookup.lean ====
section
/-!
DEFINITION. Lookup: the meaning of LOOKUP (42_syndrome_lookup_table.md).
-/

namespace Sys2Proof.Machine

/-- LOOKUP (R66): drives `lut_s` with the operand, masked to 12 bits (R10, R34), and reads the ROM there. -/
def execLookup (lutS : Nat) (s : State) : Host.Outcome State Fault Refusal :=
  match memRead s.rom (trunc12 lutS) with
  | .next x => .next (s.setLookup (lookupPorts (trunc12 lutS) x))
  | .fault f => .fault f
  | .refused r => .refused r

end Sys2Proof.Machine
end

