-- ==== Sys2Proof/Machine/Syndrome.lean ====
section
/-!
DEFINITION. Syndrome: the meaning of SYNDROME (41_syndrome_calculator.md).
-/

namespace Sys2Proof.Machine

/-- SYNDROME (R56): drives `syn_rx` with the operand, masked to 24 bits (R10). -/
def execSyndrome (synRx : Nat) (s : State) : Host.Outcome State Fault Refusal :=
  .next (s.setSyndrome (syndromePorts (trunc24 synRx)))

end Sys2Proof.Machine
end

