-- ==== Sys2Proof/Machine/Dispatch.lean ====
section
/-!
DEFINITION. Dispatch: one arm for each operation of 30_encoding.md rule R49.
-/

namespace Sys2Proof.Machine

def exec (i : Instr) (s : State) : Host.Outcome State Fault Refusal :=
  match i with
  | .encode encMsg => Sys2Proof.Machine.execEncode encMsg s
  | .syndrome synRx => Sys2Proof.Machine.execSyndrome synRx s
  | .lookup lutS => Sys2Proof.Machine.execLookup lutS s
  | .correct corU corE corRx => Sys2Proof.Machine.execCorrect corU corE corRx s
  | .extract extCw => Sys2Proof.Machine.execExtract extCw s
  | .ecc rxIn => Sys2Proof.Machine.execEcc rxIn s

end Sys2Proof.Machine
end

