-- ==== Sys2Proof/Machine/Step.lean ====
section
/-!
DEFINITION. Step: one evaluation. The CORE fetches nothing and has no program counter (10_state.md rule R13): the
host presents a transaction, and one step evaluates it (R98).
-/

namespace Sys2Proof.Machine

/-- One step: the next pending transaction is taken from the host's list, decoded and evaluated. With
none pending the inputs stay as they are, and so does every output (R11, R29). -/
def step (s : State) : Host.Outcome State Fault Refusal :=
  match s.pending with
  | [] => .next s
  | t :: rest => exec (decode t) (s.setPending rest)

/-- `s` with the table word presented as the next transaction. A width no input vector has presents
nothing. -/
def State.withFetchWord (s : State) (nbits w : Nat) : State :=
  match unitOfWidth nbits with
  | some u => s.setPending (⟨u, w⟩ :: s.pending)
  | none => s

end Sys2Proof.Machine
end

