-- ==== Sys2Proof/Machine/Rom.lean ====
section
/-!
DEFINITION. Rom: the defining rule of the ROM's contents (42_syndrome_lookup_table.md rule R59), computed by the
construction loop of R61: the patterns in ascending weight, the first with a given syndrome taken.
-/

namespace Sys2Proof.Machine

/-- The numbers below 2^n with exactly `w` set bits: those with bit n-1 clear, then those with it set. -/
def patternsOfWeight : (n w : Nat) → List Nat
  | _, 0 => [0]
  | 0, _ + 1 => []
  | n + 1, w + 1 => patternsOfWeight n (w + 1) ++ (patternsOfWeight n w).map (· + 2 ^ n)

/-- The 24-bit error patterns of weight at most 3, in ascending weight (R61). -/
def errorPatterns : List Word24 :=
  ([0, 1, 2, 3].flatMap (patternsOfWeight 24)).map (BitVec.ofNat 24)

/-- The entry that R59 fixes for a syndrome: `{0, e}` for the pattern e of weight at most 3 with that
syndrome, and the sentinel where there is none. -/
def romRule (s : Syn) : LutWord :=
  match errorPatterns.find? (fun e => syndromeOf e == s) with
  | some e => joinEntry 0#1 e
  | none => sentinel

end Sys2Proof.Machine
end

