-- ==== Sys2Proof/Safety.lean ====
section
/-!
DEFINITION. Safety: the terms in which claims speak of a safe run. A run is safe where every step answers a next
state (60_exceptions.md rule R83), the ROM is the one R59 fixes (R16, R36), and every output is the
function of the inputs that its rule gives (R29).
-/

namespace Sys2Proof.Machine

/-- The ROM is the hardware's: it lists no entry that differs from R59 (R16). -/
abbrev RomIntact (s : State) : Prop := s.rom = []

/-- Every output port is the function of its unit's current inputs (R11, R29). -/
abbrev PortsConsistent (s : State) : Prop :=
  s.encoder = encoderPorts s.encoder.encMsg ∧
  s.syndrome = syndromePorts s.syndrome.synRx ∧
  s.lookup = lookupPorts s.lookup.lutS (romContents s.lookup.lutS) ∧
  s.corrector = correctorPorts s.corrector.corRx s.corrector.corU s.corrector.corE ∧
  s.extractor = extractorPorts s.extractor.extCw ∧
  s.channel = channelPorts s.channel.rxIn (romContents (syndromeOf s.channel.rxIn))

/-- The invariant of a run of this hardware. -/
abbrev SafeState (s : State) : Prop := RomIntact s ∧ PortsConsistent s

/-- The step answers a next state: neither a fault nor a refusal (R83). -/
abbrev StepsOn (s : State) : Prop := ∃ t, step s = .next t

/-- The frame of an evaluation of unit `u` that takes `s` to `t`: the ports of every other unit, the host's
pending transactions and the whole ROM, each entry of it read through `memRead`, are unchanged (R42). -/
def FrameOf (u : CoreUnit) (s t : State) : Prop :=
  (u ≠ .golayEncoder → t.encoder = s.encoder) ∧
  (u ≠ .syndromeCalculator → t.syndrome = s.syndrome) ∧
  (u ≠ .syndromeLookupTable → t.lookup = s.lookup) ∧
  (u ≠ .errorCorrector → t.corrector = s.corrector) ∧
  (u ≠ .messageExtractor → t.extractor = s.extractor) ∧
  (u ≠ .decodeChannel → t.channel = s.channel) ∧
  t.pending = s.pending ∧
  t.rom = s.rom ∧
  ∀ a : Syn, memRead t.rom a = memRead s.rom a

end Sys2Proof.Machine
end

