-- ==== Sys2Proof/Certificates/Slice0/Obligations.lean ====
section
/-!
DEFINITION. Obligations: the statements for the provers. Each docstring names the rule of spec/ it formalises.
Matrices, masks and check values are written out from the spec's own tables, so that a statement does not
lean on the model's copy of them.
-/

open Sys2Proof Sys2Proof.Machine

/-- R54. ENCODE completes from every state on every operand, masked to 12 bits. The m-part is the message,
parity bit j is the parity of the message under column j of B (the table of R18), the codeword is the XOR
of the rows of G (the table of R20) that the message selects, and nothing else changes. -/
def Obligations.EncodeMultipliesByGenerator : Prop :=
  ∀ (n : Nat) (s : State), ∃ t, exec (.encode n) s = .next t ∧
    t.encoder.encMsg = BitVec.ofNat 12 n ∧
    (∀ i, i < 12 → t.encoder.encCw.getLsbD i = (BitVec.ofNat 12 n).getLsbD i) ∧
    (∀ j, j < 12 → t.encoder.encCw.getLsbD (12 + j) =
      parity (BitVec.ofNat 12 n &&&
        [0xDC5#12, 0xB8B#12, 0xF16#12, 0xE2D#12, 0xC5B#12, 0x8B7#12,
         0x96E#12, 0xADC#12, 0xDB8#12, 0xB71#12, 0xEE2#12, 0x7FF#12].getD j 0#12)) ∧
    t.encoder.encCw =
      (List.range 12).foldl (fun acc i => if (BitVec.ofNat 12 n).getLsbD i then
        acc ^^^ [0xA3B001#24, 0xC76002#24, 0x8ED004#24, 0x9DA008#24, 0xBB4010#24, 0xF68020#24,
          0xED1040#24, 0xDA3080#24, 0xB47100#24, 0xE8E200#24, 0xD1D400#24, 0x7FF800#24].getD i 0#24
        else acc) 0#24 ∧
    FrameOf .golayEncoder s t

/-- 40_encoder.md, the properties of ENCODE, items 1 to 3, 5 and 6: systematic, linear, injective,
self-dual, and every codeword has syndrome 0. -/
def Obligations.EncodeIsSystematicLinearSelfDual : Prop :=
  (∀ m : Msg, mPart (encodeWord m) = m) ∧
  (∀ a b : Msg, encodeWord (a ^^^ b) = encodeWord a ^^^ encodeWord b) ∧
  (∀ a b : Msg, encodeWord a = encodeWord b → a = b) ∧
  (∀ a b : Msg, parity (encodeWord a &&& encodeWord b) = false) ∧
  (∀ m : Msg, syndromeOf (encodeWord m) = 0#12)

/-- 40_encoder.md, the properties of ENCODE, item 4: how many of the 4096 codewords have each weight. -/
def Obligations.CodewordWeightDistribution : Prop :=
  [0, 8, 12, 16, 24].map
      (fun w => (List.range 4096).countP (fun n => popcount (encodeWord (BitVec.ofNat 12 n)) == w)) =
    [1, 759, 2576, 759, 1] ∧
  ∀ m : Msg, m ≠ 0#12 → 8 ≤ popcount (encodeWord m)

/-- R56. SYNDROME completes from every state on every operand, masked to 24 bits. Syndrome bit k is the
parity of the received word under row k of H (the table of R21). It equals the recomputed parity XOR the
received parity. Nothing else changes. -/
def Obligations.SyndromeMultipliesByParityCheck : Prop :=
  ∀ (n : Nat) (s : State), ∃ t, exec (.syndrome n) s = .next t ∧
    t.syndrome.synRx = BitVec.ofNat 24 n ∧
    (∀ k, k < 12 → t.syndrome.synS.getLsbD k =
      parity (BitVec.ofNat 24 n &&&
        [0x001DC5#24, 0x002B8B#24, 0x004F16#24, 0x008E2D#24, 0x010C5B#24, 0x0208B7#24,
         0x04096E#24, 0x080ADC#24, 0x100DB8#24, 0x200B71#24, 0x400EE2#24, 0x8007FF#24].getD k 0#24)) ∧
    t.syndrome.synS =
      pPart (encodeWord (mPart (BitVec.ofNat 24 n))) ^^^ pPart (BitVec.ofNat 24 n) ∧
    FrameOf .syndromeCalculator s t

/-- R57. The syndrome is zero exactly on the codewords; it is linear; it depends only on the error; every
12-bit value is the syndrome of exactly 4096 words, one for each message; and the worked scenario's
syndrome is that of its error alone. -/
def Obligations.SyndromeLocatesTheCoset : Prop :=
  (∀ r : Word24, syndromeOf r = 0#12 ↔ r = encodeWord (mPart r)) ∧
  (∀ a b : Word24, syndromeOf (a ^^^ b) = syndromeOf a ^^^ syndromeOf b) ∧
  (∀ (m : Msg) (e : Word24), syndromeOf (encodeWord m ^^^ e) = syndromeOf e) ∧
  (∀ s : Syn, syndromeOf (joinWord s 0#12) = s) ∧
  (∀ (s : Syn) (r : Word24),
    syndromeOf r = s ↔ ∃! m : Msg, r = encodeWord m ^^^ joinWord s 0#12) ∧
  syndromeOf 0x010084#24 = 0x55E#12 ∧ syndromeOf 0x2DE2F7#24 = 0x55E#12

/-- R66. On the hardware's ROM, LOOKUP completes on every operand, masked to 12 bits. `lut_u` is bit 24 and
`lut_e` bits 23:0 of the entry that a read of the ROM at the index gives. Nothing else changes. -/
def Obligations.LookupSplitsTheRomEntry : Prop :=
  ∀ (n : Nat) (s : State), RomIntact s → ∃ t x, exec (.lookup n) s = .next t ∧
    memRead s.rom (BitVec.ofNat 12 n) = .next x ∧
    x = romContents (BitVec.ofNat 12 n) ∧
    t.lookup.lutS = BitVec.ofNat 12 n ∧
    t.lookup.lutU.getLsbD 0 = x.getLsbD 24 ∧
    (∀ i, i < 24 → t.lookup.lutE.getLsbD i = x.getLsbD i) ∧
    FrameOf .syndromeLookupTable s t

/-- R59. The ROM of the hardware holds at every index the pattern of weight at most 3 with that syndrome,
with U = 0, and the word 0x1000000 where there is none. It holds it after reset and after every step. -/
def Obligations.RomHoldsTheLowWeightPattern : Prop :=
  ∀ (st : State), RomIntact st → ∀ s : Syn, ∃ x, memRead st.rom s = .next x ∧
    (∀ e : Word24, popcount e ≤ 3 → syndromeOf e = s → x = 0#1 ++ e) ∧
    ((∀ e : Word24, popcount e ≤ 3 → syndromeOf e ≠ s) → x = 0x1000000#25) ∧
    memRead State.reset.rom s = .next x ∧
    ∀ t, step st = .next t → memRead t.rom s = .next x

/-- R60. No two patterns of weight at most 3 share a syndrome; the ROM holds 1, 24, 276 and 2024 entries with
U = 0 of weight 0 to 3 and 1771 with U = 1; and a correctable entry is the one element of weight at most 3
of its coset and its one element of minimum weight. -/
def Obligations.RomEntryCountsAndUniqueness : Prop :=
  (∀ a b : Word24, popcount a ≤ 3 → popcount b ≤ 3 → syndromeOf a = syndromeOf b → a = b) ∧
  [0, 1, 2, 3].map (fun w => (List.range 4096).countP (fun n =>
      entryU (romContents (BitVec.ofNat 12 n)) == 0#1 &&
        popcount (entryE (romContents (BitVec.ofNat 12 n))) == w)) = [1, 24, 276, 2024] ∧
  (List.range 4096).countP (fun n => entryU (romContents (BitVec.ofNat 12 n)) == 1#1) = 1771 ∧
  (∀ s : Syn, entryU (romContents s) = 0#1 →
    syndromeOf (entryE (romContents s)) = s ∧
    ∀ e : Word24, syndromeOf e = s → e ≠ entryE (romContents s) →
      3 < popcount e ∧ popcount (entryE (romContents s)) < popcount e)

/-- R64. An index with U = 1 is the syndrome of exactly six patterns of weight 4, an index with U = 0 of none,
every word is within distance 4 of a codeword, and a word in a U = 1 coset has none nearer. -/
def Obligations.UncorrectableCosetsHaveSixLeaders : Prop :=
  (∀ s : Syn, entryU (romContents s) = 1#1 →
    ∃ l : List Word24, l.Nodup ∧ l.length = 6 ∧
      ∀ e : Word24, e ∈ l ↔ popcount e = 4 ∧ syndromeOf e = s) ∧
  (∀ s : Syn, entryU (romContents s) = 0#1 →
    ∀ e : Word24, popcount e = 4 → syndromeOf e ≠ s) ∧
  (∀ r : Word24, ∃ m : Msg, popcount (r ^^^ encodeWord m) ≤ 4) ∧
  (∀ (r : Word24) (m : Msg), entryU (romContents (syndromeOf r)) = 1#1 →
    4 ≤ popcount (r ^^^ encodeWord m))

/-- R61. The source's construction loop, run over the patterns of weight at most 3 in ANY order, ascending or
not, fills each slot at most once and gives exactly the contents of the ROM. -/
def Obligations.ConstructionLoopGivesTheRom : Prop :=
  ∀ l : List Word24, (∀ e : Word24, e ∈ l ↔ popcount e ≤ 3) → l.Nodup →
    (l.map syndromeOf).Nodup ∧
    ∀ s : Syn,
      (l.foldl (fun (slot : Syn → Option LutWord) (e : Word24) =>
          if slot (syndromeOf e) = none then Function.update slot (syndromeOf e) (some (0#1 ++ e))
          else slot) (fun _ => none) s).getD 0x1000000#25 = romContents s

/-- R62. The single error in bit c has the syndrome of the table and stands at that index of the ROM. The
syndrome of any word is the XOR of the syndromes of its set bits. -/
def Obligations.SingleErrorRomEntries : Prop :=
  (∀ c, c < 24 →
    syndromeOf (1#24 <<< c) =
      [0xA3B#12, 0xC76#12, 0x8ED#12, 0x9DA#12, 0xBB4#12, 0xF68#12, 0xED1#12, 0xDA3#12,
       0xB47#12, 0xE8E#12, 0xD1D#12, 0x7FF#12, 0x001#12, 0x002#12, 0x004#12, 0x008#12,
       0x010#12, 0x020#12, 0x040#12, 0x080#12, 0x100#12, 0x200#12, 0x400#12, 0x800#12].getD c 0#12 ∧
    romContents (syndromeOf (1#24 <<< c)) = 1#25 <<< c) ∧
  ∀ e : Word24, syndromeOf e =
    (List.range 24).foldl
      (fun acc c => if e.getLsbD c then acc ^^^ syndromeOf (1#24 <<< c) else acc) 0#12

/-- 42_syndrome_lookup_table.md, the check values of the whole image: the sum, the XOR, the index-weighted
sum, and the ten lowest UNCORRECTABLE indices. -/
def Obligations.RomImageCheckValues : Prop :=
  (List.range 4096).foldl (fun a n => (a + (romContents (BitVec.ofNat 12 n)).toNat) % 2 ^ 32) 0 =
    0xFFFFFEEB ∧
  (List.range 4096).foldl (fun a n => a ^^^ romContents (BitVec.ofNat 12 n)) 0#25 = 0x1FFFFFF#25 ∧
  (List.range 4096).foldl
      (fun a n => (a + (n + 1) * (romContents (BitVec.ofNat 12 n)).toNat) % 2 ^ 32) 0 = 0x09F54F75 ∧
  ((List.range 0x34).filter (fun n => entryU (romContents (BitVec.ofNat 12 n)) == 1#1)).take 10 =
    [0x00F, 0x017, 0x01B, 0x01D, 0x01E, 0x027, 0x02B, 0x02D, 0x02E, 0x033]

/-- R46. Every entry of the hardware's ROM is legal: U = 0 with a pattern of weight at most 3, or the single
sentinel 0x1000000. E = 0 with U = 0 stands at index 0. -/
def Obligations.RomHoldsOnlyLegalEntries : Prop :=
  ∀ st : State, RomIntact st →
    (∀ s : Syn, ∃ x, memRead st.rom s = .next x ∧
      ((x.getLsbD 24 = false ∧ popcount (entryE x) ≤ 3) ∨ x = 0x1000000#25)) ∧
    memRead st.rom 0#12 = .next 0#25

/-- R67, R69. CORRECT completes from every state on every input, the reserved combinations of U and E among
them. With U = 1 the received word goes through whatever E is (the spec's decision D8), with U = 0 any E is
XORed in with no weight check, and `cor_ok` and `cor_status` report the outcome. Nothing else changes. -/
def Obligations.CorrectAppliesThePattern : Prop :=
  ∀ (u : Bit) (e r : Nat) (s : State), ∃ t, exec (.correct u e r) s = .next t ∧
    t.corrector.corRx = BitVec.ofNat 24 r ∧ t.corrector.corU = u ∧
    t.corrector.corE = BitVec.ofNat 24 e ∧
    (u = 1#1 → t.corrector.corCw = BitVec.ofNat 24 r ∧ t.corrector.corOk = 0#1 ∧
      t.corrector.corStatus = 0b10#2) ∧
    (u = 0#1 → (∀ i, i < 24 → t.corrector.corCw.getLsbD i = (r.testBit i ^^ e.testBit i)) ∧
      t.corrector.corOk = 1#1 ∧
      (e % 2 ^ 24 = 0 → t.corrector.corStatus = 0b00#2) ∧
      (e % 2 ^ 24 ≠ 0 → t.corrector.corStatus = 0b01#2)) ∧
    FrameOf .errorCorrector s t

/-- R70, R71. EXTRACT completes from every state on every word, codeword or not, and returns bits 11:0. The
p-part does not matter. Nothing else changes. -/
def Obligations.ExtractReturnsTheMessagePart : Prop :=
  ∀ (n : Nat) (s : State), ∃ t, exec (.extract n) s = .next t ∧
    t.extractor.extCw = BitVec.ofNat 24 n ∧
    (∀ i, i < 12 → t.extractor.extMsg.getLsbD i = n.testBit i) ∧
    (∀ n', n' % 2 ^ 12 = n % 2 ^ 12 → ∃ t', exec (.extract n') s = .next t' ∧
      t'.extractor.extMsg = t.extractor.extMsg) ∧
    FrameOf .messageExtractor s t

/-- R72, R73. On the hardware's ROM, ECC completes on every operand, and each of its outputs is what the
separate units give when they are driven one after the other as the CORE's nets drive them: SYNDROME,
LOOKUP, CORRECT, and EXTRACT for `msg_out`. When `ok_out` is 0, `msg_out` is the received word's m-part.
Nothing else changes. -/
def Obligations.EccComposesTheUnits : Prop :=
  ∀ (n : Nat) (s : State), RomIntact s → ∃ t a b c d,
    exec (.ecc n) s = .next t ∧
    exec (.syndrome n) s = .next a ∧
    exec (.lookup a.syndrome.synS.toNat) s = .next b ∧
    exec (.correct b.lookup.lutU b.lookup.lutE.toNat n) s = .next c ∧
    exec (.extract c.corrector.corCw.toNat) s = .next d ∧
    t.channel.rxIn = BitVec.ofNat 24 n ∧
    t.channel.syndromeOut = a.syndrome.synS ∧
    t.channel.netU = b.lookup.lutU ∧ t.channel.netE = b.lookup.lutE ∧
    t.channel.correctedOut = c.corrector.corCw ∧
    t.channel.okOut = c.corrector.corOk ∧
    t.channel.statusOut = c.corrector.corStatus ∧
    t.channel.msgOut = d.extractor.extMsg ∧
    (t.channel.okOut = 0#1 → t.channel.msgOut = mPart (BitVec.ofNat 24 n)) ∧
    FrameOf .decodeChannel s t

/-- R68. ECC reports CLEAN exactly when the syndrome is zero, and its outputs are then the received word with
`ok_out` = 1: the source's step 2, though there is no comparator. -/
def Obligations.CleanExactlyAtZeroSyndrome : Prop :=
  ∀ (n : Nat) (s : State), RomIntact s → ∃ t, exec (.ecc n) s = .next t ∧
    (t.channel.statusOut = 0b00#2 ↔ t.channel.syndromeOut = 0#12) ∧
    (t.channel.syndromeOut = 0#12 →
      t.channel.correctedOut = BitVec.ofNat 24 n ∧ t.channel.okOut = 1#1) ∧
    ∀ i : Syn, (entryU (romContents i) = 0#1 ∧ entryE (romContents i) = 0#24) ↔ i = 0#12

/-- R74. Round trip: extracting what ENCODE gave returns the message. -/
def Obligations.ExtractUndoesEncode : Prop :=
  ∀ (m : Msg) (s : State), ∃ a b,
    exec (.encode m.toNat) s = .next a ∧
    exec (.extract a.encoder.encCw.toNat) a = .next b ∧
    b.extractor.extMsg = m

/-- R75. Distinct messages have codewords at distance at least 8, and 0 and 1 meet the bound. -/
def Obligations.MinimumDistanceIsEight : Prop :=
  (∀ a b : Msg, a ≠ b → 8 ≤ popcount (encodeWord a ^^^ encodeWord b)) ∧
  popcount (encodeWord 0#12 ^^^ encodeWord 1#12) = 8

/-- R76. Correction completeness: ECC on a codeword with an error of weight at most 3 gives back the codeword,
and its message. -/
def Obligations.EveryErrorUpToWeightThreeIsCorrected : Prop :=
  ∀ (m : Msg) (e : Word24) (s : State), RomIntact s → popcount e ≤ 3 →
    ∃ t, exec (.ecc (encodeWord m ^^^ e).toNat) s = .next t ∧
      t.channel.okOut = 1#1 ∧
      t.channel.correctedOut = encodeWord m ∧
      t.channel.msgOut = m ∧
      (e = 0#24 → t.channel.statusOut = 0b00#2) ∧
      (e ≠ 0#24 → t.channel.statusOut = 0b01#2) ∧
      t.channel.syndromeOut = syndromeOf e

/-- R77. Weight-4 detection: ECC on a codeword with an error of weight 4 reports UNCORRECTABLE, with a
non-zero syndrome and the received word on `corrected_out` (the spec's decision D8). -/
def Obligations.EveryErrorOfWeightFourIsDetected : Prop :=
  ∀ (m : Msg) (e : Word24) (s : State), RomIntact s → popcount e = 4 →
    ∃ t, exec (.ecc (encodeWord m ^^^ e).toNat) s = .next t ∧
      t.channel.okOut = 0#1 ∧
      t.channel.statusOut = 0b10#2 ∧
      t.channel.syndromeOut ≠ 0#12 ∧
      t.channel.correctedOut = encodeWord m ^^^ e

/-- R78. Table totality: every one of the 4096 indices is answered, 2325 with U = 0 and 1771 with U = 1. -/
def Obligations.RomIsTotalAndPartitioned : Prop :=
  (∀ (st : State) (s : Syn), RomIntact st → memRead st.rom s = .next (romContents s)) ∧
  (List.range 4096).countP (fun n => entryU (romContents (BitVec.ofNat 12 n)) == 0#1) = 2325 ∧
  (List.range 4096).countP (fun n => entryU (romContents (BitVec.ofNat 12 n)) == 1#1) = 1771

/-- 45_ecc_pipeline.md section 2, the rows for weight 5 and weight 7 of the table beyond the guarantee: the
error is never detected and always miscorrected, to a codeword at distance 8. -/
def Obligations.ErrorsOfWeightFiveAndSevenAreMiscorrected : Prop :=
  ∀ (m : Msg) (e : Word24) (s : State), RomIntact s → popcount e = 5 ∨ popcount e = 7 →
    ∃ t, exec (.ecc (encodeWord m ^^^ e).toNat) s = .next t ∧
      t.channel.okOut = 1#1 ∧
      t.channel.statusOut = 0b01#2 ∧
      t.channel.correctedOut ≠ encodeWord m ∧
      syndromeOf (t.channel.correctedOut ^^^ encodeWord m) = 0#12 ∧
      popcount (t.channel.correctedOut ^^^ encodeWord m) = 8

/-- R80. With `ok_out` = 1 the corrected word is a codeword within distance 3 of the received word, and the
only one. With `ok_out` = 0 no codeword is within distance 3, and one is at distance 4. -/
def Obligations.OkMeansTheOnlyCodewordWithinThree : Prop :=
  ∀ (n : Nat) (s : State), RomIntact s → ∃ t, exec (.ecc n) s = .next t ∧
    (t.channel.okOut = 1#1 →
      syndromeOf t.channel.correctedOut = 0#12 ∧
      popcount (BitVec.ofNat 24 n ^^^ t.channel.correctedOut) ≤ 3 ∧
      ∀ m : Msg, popcount (BitVec.ofNat 24 n ^^^ encodeWord m) ≤ 3 →
        encodeWord m = t.channel.correctedOut) ∧
    (t.channel.okOut = 0#1 →
      (∀ m : Msg, 3 < popcount (BitVec.ofNat 24 n ^^^ encodeWord m)) ∧
      ∃ m : Msg, popcount (BitVec.ofNat 24 n ^^^ encodeWord m) = 4)

/-- R81. Coset invariance: XORing a codeword into the received word leaves `syndrome_out`, `ok_out` and
`status_out` of ECC as they were, and with them the looked-up entry on the nets. The codeword is XORed into
`corrected_out`, and so its message into `msg_out`. -/
def Obligations.EccIsInvariantOnCosets : Prop :=
  ∀ (m : Msg) (r : Word24) (s : State), RomIntact s → ∃ a b,
    exec (.ecc r.toNat) s = .next a ∧
    exec (.ecc (r ^^^ encodeWord m).toNat) s = .next b ∧
    b.channel.syndromeOut = a.channel.syndromeOut ∧
    b.channel.okOut = a.channel.okOut ∧
    b.channel.statusOut = a.channel.statusOut ∧
    b.channel.netU = a.channel.netU ∧
    b.channel.netE = a.channel.netE ∧
    b.channel.correctedOut = a.channel.correctedOut ^^^ encodeWord m ∧
    b.channel.msgOut = a.channel.msgOut ^^^ m

/-- R82. Output on failure: the received word unchanged (the spec's decision D8), UNCORRECTABLE, and a
non-zero syndrome. Some word does fail. -/
def Obligations.FailureReturnsTheReceivedWord : Prop :=
  (∀ (n : Nat) (s : State), RomIntact s → ∃ t, exec (.ecc n) s = .next t ∧
    (t.channel.okOut = 0#1 →
      t.channel.correctedOut = BitVec.ofNat 24 n ∧
      t.channel.statusOut = 0b10#2 ∧
      t.channel.syndromeOut ≠ 0#12)) ∧
  ∀ s : State, RomIntact s → ∃ t, exec (.ecc 0x00000F) s = .next t ∧ t.channel.okOut = 0#1

/-- R10. A carrier wider than its port is masked to 12 or 24 bits, silently: the operation ends exactly as on
the masked operand. -/
def Obligations.WideOperandsAreMasked : Prop :=
  ∀ (n k : Nat) (u : Bit) (s : State),
    exec (.encode n) s = exec (.encode (n % 2 ^ 12)) s ∧
    exec (.syndrome n) s = exec (.syndrome (n % 2 ^ 24)) s ∧
    exec (.lookup n) s = exec (.lookup (n % 2 ^ 12)) s ∧
    exec (.correct u k n) s = exec (.correct u (k % 2 ^ 24) (n % 2 ^ 24)) s ∧
    exec (.extract n) s = exec (.extract (n % 2 ^ 24)) s ∧
    exec (.ecc n) s = exec (.ecc (n % 2 ^ 24)) s

/-- R11. Every operation completes, has no side effect beyond its own unit's ports, and gives identical output
for identical input, whatever the machine did before: two states of the hardware end with the same ports on
the unit that the operation drives. -/
def Obligations.OutputsDependOnInputsAlone : Prop :=
  ∀ (i : Instr) (s s' : State), RomIntact s → RomIntact s' → ∃ t t',
    exec i s = .next t ∧ exec i s' = .next t' ∧ FrameOf i.coreUnit s t ∧
    (i.coreUnit = .golayEncoder → t.encoder = t'.encoder) ∧
    (i.coreUnit = .syndromeCalculator → t.syndrome = t'.syndrome) ∧
    (i.coreUnit = .syndromeLookupTable → t.lookup = t'.lookup) ∧
    (i.coreUnit = .errorCorrector → t.corrector = t'.corrector) ∧
    (i.coreUnit = .messageExtractor → t.extractor = t'.extractor) ∧
    (i.coreUnit = .decodeChannel → t.channel = t'.channel)

/-- 20_memory.md section 3 (a read of the ROM has no side effect and may be repeated) and 00_scope.md section 4
(every operation is a pure function of its inputs and of the ROM): an operation repeated on its own result
changes nothing more. -/
def Obligations.RepeatedEvaluationChangesNothing : Prop :=
  ∀ (i : Instr) (s t : State), exec i s = .next t → exec i t = .next t

/-- R42. Evaluations on different units may be done in any order: no evaluation affects another. Where both
complete, each completes after the other, and the two orders end in one state. -/
def Obligations.EvaluationsOnDifferentUnitsCommute : Prop :=
  ∀ (i j : Instr) (s a b : State), i.coreUnit ≠ j.coreUnit →
    exec i s = .next a → exec j s = .next b →
    ∃ t, exec j a = .next t ∧ exec i b = .next t

/-- The frame of every operation: where it answers a next state, only the ports of its own unit may differ,
and every entry of the ROM reads as before. -/
def Obligations.EveryOperationKeepsItsFrame : Prop :=
  ∀ (i : Instr) (s t : State), exec i s = .next t → FrameOf i.coreUnit s t

/-- R83. No operation raises an exception: on the hardware's ROM every operation, and every step, answers a
next state. -/
def Obligations.NoOperationStopsTheMachine : Prop :=
  (∀ (i : Instr) (s : State), RomIntact s → ∃ t, exec i s = .next t) ∧
  ∀ s : State, RomIntact s → StepsOn s

/-- R36. Nothing writes the ROM: every step leaves it as it was, in its canonical form where it had that, and
every index reads as before. -/
def Obligations.NoStepWritesTheRom : Prop :=
  ∀ s t : State, step s = .next t →
    t.rom = s.rom ∧
    (Memory.wf s.rom = true → Memory.wf t.rom = true) ∧
    ∀ i : Syn, memRead t.rom i = memRead s.rom i

/-- 93_implementation_defined.md section 2 and 70_reset_and_hazards.md section 1: what the model does, log
entry 2, in a state whose ROM is NOT the hardware's at the index that LOOKUP or ECC reads. A reserved word
faults and any other foreign word is refused. -/
def Obligations.ForeignRomEntriesAreNeverValues : Prop :=
  ∀ (n : Nat) (s : State) (x : LutWord),
    (romListed s.rom (BitVec.ofNat 12 n).toNat = some x → x ≠ romContents (BitVec.ofNat 12 n) →
      (isReservedEntry x = true → exec (.lookup n) s = .fault .romReservedEntry) ∧
      (isReservedEntry x = false → exec (.lookup n) s = .refused .romOutsideSpec)) ∧
    (romListed s.rom (syndromeOf (BitVec.ofNat 24 n)).toNat = some x →
      x ≠ romContents (syndromeOf (BitVec.ofNat 24 n)) →
      (isReservedEntry x = true → exec (.ecc n) s = .fault .romReservedEntry) ∧
      (isReservedEntry x = false → exec (.ecc n) s = .refused .romOutsideSpec))

/-- 10_state.md section 5 and 70_reset_and_hazards.md section 1: every output is at every instant the function
of the current inputs that its rule gives. Every step keeps this, from every state that meets it, on any
ROM. -/
def Obligations.StepKeepsOutputsFunctionsOfInputs : Prop :=
  ∀ s t : State, PortsConsistent s → step s = .next t → PortsConsistent t

/-- 10_state.md section 5: the same at reset, with the hardware's ROM in its canonical form. Two clauses are the
model's choices and no rule of the spec: every INPUT port holds 0 (log entry 3), and the host's list of
transactions is empty (log entry 4). -/
def Obligations.ResetMeetsTheSafeState : Prop :=
  SafeState State.reset ∧ Memory.wf State.reset.rom = true ∧
  (State.reset.encoder.encMsg = 0#12 ∧ State.reset.syndrome.synRx = 0#24 ∧
    State.reset.lookup.lutS = 0#12 ∧ State.reset.corrector.corRx = 0#24 ∧
    State.reset.corrector.corU = 0#1 ∧ State.reset.corrector.corE = 0#24 ∧
    State.reset.extractor.extCw = 0#24 ∧ State.reset.channel.rxIn = 0#24) ∧
  State.reset.pending = []

/-- R47. In every state whose outputs are functions of their inputs, the error corrector's and the decode
channel's outcome follow the table of STATUS2: CLEAN for U = 0 and E = 0, CORRECTED for U = 0 and E ≠ 0,
UNCORRECTABLE for U = 1, 0b11 never, and ok is 1 exactly on CLEAN and CORRECTED. -/
def Obligations.OutcomesFollowTheStatusTable : Prop :=
  ∀ s : State, PortsConsistent s →
    ((s.corrector.corStatus = 0b00#2 ↔ s.corrector.corU = 0#1 ∧ s.corrector.corE = 0#24) ∧
      (s.corrector.corStatus = 0b01#2 ↔ s.corrector.corU = 0#1 ∧ s.corrector.corE ≠ 0#24) ∧
      (s.corrector.corStatus = 0b10#2 ↔ s.corrector.corU = 1#1) ∧
      s.corrector.corStatus ≠ 0b11#2 ∧
      (s.corrector.corOk = 1#1 ↔
        s.corrector.corStatus = 0b00#2 ∨ s.corrector.corStatus = 0b01#2)) ∧
    (s.channel.statusOut = 0b00#2 ↔ s.channel.netU = 0#1 ∧ s.channel.netE = 0#24) ∧
    (s.channel.statusOut = 0b01#2 ↔ s.channel.netU = 0#1 ∧ s.channel.netE ≠ 0#24) ∧
    (s.channel.statusOut = 0b10#2 ↔ s.channel.netU = 1#1) ∧
    s.channel.statusOut ≠ 0b11#2 ∧
    (s.channel.okOut = 1#1 ↔ s.channel.statusOut = 0b00#2 ∨ s.channel.statusOut = 0b01#2)

/-- A step evaluates the host's next transaction, decoded to a well-formed operation, in the state from which
that transaction has been taken, and with none pending changes nothing. The host's list is the model's own
(log entry 4). -/
def Obligations.StepEvaluatesTheDecodedTransaction : Prop :=
  (∀ s : State, s.pending = [] → step s = .next s) ∧
  ∀ (s : State) (x : Transaction) (rest : List Transaction), s.pending = x :: rest →
    (decode x).wellFormed = true ∧ step s = exec (decode x) { s with pending := rest }

/-- A table word presented as the next transaction is evaluated by the very next step, as the operation the
decoder reads from it, in the state as it was (log entry 5). -/
def Obligations.PresentedWordIsEvaluatedNext : Prop :=
  ∀ (s : State) (nbits w : Nat) (i : Instr), decodeTableWord nbits w = some i →
    step (s.withFetchWord nbits w) = exec i s

/-- Decoding the transaction of a well-formed operation gives back the operation, with every operand. -/
def Obligations.DecodeUndoesEncode : Prop :=
  ∀ i : Instr, i.wellFormed = true → decode (encode i) = i

/-- 30_encoding.md sections 2 and 3: every vector of every unit selects that unit's one operation and is refused
nowhere, and encoding the decoded operation gives back every bit of the vector within the unit's width. That
a number wider than the unit's vector is masked to that width is the model's deduction (log entry 8). -/
def Obligations.EncodeUndoesDecode : Prop :=
  ∀ t : Transaction,
    (decode t).coreUnit = t.unit ∧
    (decode t).wellFormed = true ∧
    encode (decode t) = ⟨t.unit, t.vector % 2 ^ t.unit.width⟩

/-- Input vectors written out from 30_encoding.md section 2 and the host programs' `enc` column decode to the
operations they stand for. -/
def Obligations.WrittenOutVectorsDecode : Prop :=
  decode ⟨.golayEncoder, 0b0010_0111_0011⟩ = .encode 0x273 ∧
  decode ⟨.syndromeCalculator, 0b0010_1101_1110_0010_1111_0111⟩ = .syndrome 0x2DE2F7 ∧
  decode ⟨.syndromeLookupTable, 0b0101_0101_1110⟩ = .lookup 0x55E ∧
  decode ⟨.errorCorrector, 0x1000000647555⟩ = .correct 1#1 0x000000 0x647555 ∧
  decode ⟨.errorCorrector, 0x040000175BB9E⟩ = .correct 0#1 0x400001 0x75BB9E ∧
  decode ⟨.messageExtractor, 0b0010_1100_1110_0010_0111_0011⟩ = .extract 0x2CE273 ∧
  decode ⟨.decodeChannel, 0x00001F⟩ = .ecc 0x00001F

/-- R17, R18. The masks of B that the model wires in are B by its defining rule, and are those of the
table. Row and column 11 have weight 11 and every other row and column weight 7. -/
def Obligations.WiredMasksFollowTheRuleOfB : Prop :=
  (∀ i j, i < 12 → j < 12 →
    ((rowmaskB i).getLsbD j = true ↔
      (i < 11 ∧ j < 11 ∧ (i = j ∨ ((j : Int) - i) % 11 ∈ ([1, 3, 4, 5, 9] : List Int))) ∨
      (i < 11 ∧ j = 11) ∨ (i = 11 ∧ j < 11)) ∧
    (colmaskB j).getLsbD i = (rowmaskB i).getLsbD j) ∧
  (List.range 12).map rowmaskB =
    [0xA3B#12, 0xC76#12, 0x8ED#12, 0x9DA#12, 0xBB4#12, 0xF68#12,
     0xED1#12, 0xDA3#12, 0xB47#12, 0xE8E#12, 0xD1D#12, 0x7FF#12] ∧
  (List.range 12).map colmaskB =
    [0xDC5#12, 0xB8B#12, 0xF16#12, 0xE2D#12, 0xC5B#12, 0x8B7#12,
     0x96E#12, 0xADC#12, 0xDB8#12, 0xB71#12, 0xEE2#12, 0x7FF#12] ∧
  ∀ i, i < 12 → popcount (rowmaskB i) = (if i = 11 then 11 else 7) ∧
    popcount (colmaskB i) = (if i = 11 then 11 else 7)

/-- R19. B is not symmetric, B · Bᵀ is the identity and B · B is not. -/
def Obligations.InverseOfBIsItsTranspose : Prop :=
  (∃ i j, i < 12 ∧ j < 12 ∧ (rowmaskB i).getLsbD j ≠ (rowmaskB j).getLsbD i) ∧
  (∀ i k, i < 12 → k < 12 → dot (rowmaskB i) (rowmaskB k) = decide (i = k)) ∧
  ∃ i k, i < 12 ∧ k < 12 ∧ dot (rowmaskB i) (colmaskB k) ≠ decide (i = k)

/-- R20, R21. The rows of G and H are those of the tables, `G · Hᵀ = 0`, and the rows of G are linearly
independent. -/
def Obligations.ParityCheckAnnihilatesTheGenerator : Prop :=
  (List.range 12).map gRow =
    [0xA3B001#24, 0xC76002#24, 0x8ED004#24, 0x9DA008#24, 0xBB4010#24, 0xF68020#24,
     0xED1040#24, 0xDA3080#24, 0xB47100#24, 0xE8E200#24, 0xD1D400#24, 0x7FF800#24] ∧
  (List.range 12).map hRow =
    [0x001DC5#24, 0x002B8B#24, 0x004F16#24, 0x008E2D#24, 0x010C5B#24, 0x0208B7#24,
     0x04096E#24, 0x080ADC#24, 0x100DB8#24, 0x200B71#24, 0x400EE2#24, 0x8007FF#24] ∧
  (∀ i k, i < 12 → k < 12 → dot (gRow i) (hRow k) = false) ∧
  ∀ m : Msg, (List.range 12).foldl (fun acc i => if m.getLsbD i then acc ^^^ gRow i else acc) 0#24 =
    0#24 → m = 0#12

/-- 95_test_vectors.md, W1: the source's worked scenario, each operation once from reset. -/
def Obligations.SourceScenarioIsReproduced : Prop :=
  ∃ a b c, exec (.encode 0b0010_0111_0011) State.reset = .next a ∧
    a.cwOut = 0x2CE273#24 ∧
    exec (.ecc (a.cwOut ^^^ 0b0000_0001_0000_0000_1000_0100#24).toNat) a = .next b ∧
    b.channel.syndromeOut = 0x55E#12 ∧ b.channel.correctedOut = a.cwOut ∧
    b.channel.okOut = 1#1 ∧ b.channel.statusOut = 0b01#2 ∧
    exec (.extract a.cwOut.toNat) b = .next c ∧
    c.extractor.extMsg = 0b0010_0111_0011#12

/-- 45_ecc_pipeline.md section 2, the rows for weight 6 and weight 8 of the table beyond the guarantee, without
their counts: the error is either detected, with `ok_out` = 0, or miscorrected, with `ok_out` = 1, to a word
that is not the codeword sent and differs from it by a codeword of weight 8. CLEAN is reported exactly where
the error is itself a codeword, which no error of weight 6 is. -/
def Obligations.ErrorsOfWeightSixAndEightAreDetectedOrMiscorrected : Prop :=
  ∀ (m : Msg) (e : Word24) (s : State), RomIntact s → popcount e = 6 ∨ popcount e = 8 →
    ∃ t, exec (.ecc (encodeWord m ^^^ e).toNat) s = .next t ∧
      (t.channel.okOut = 0#1 → t.channel.statusOut = 0b10#2) ∧
      (t.channel.okOut = 1#1 →
        t.channel.correctedOut ≠ encodeWord m ∧
        syndromeOf (t.channel.correctedOut ^^^ encodeWord m) = 0#12 ∧
        popcount (t.channel.correctedOut ^^^ encodeWord m) = 8 ∧
        (t.channel.statusOut = 0b00#2 ∨ t.channel.statusOut = 0b01#2)) ∧
      (t.channel.statusOut = 0b00#2 ↔ ∃ k : Msg, e = encodeWord k) ∧
      (popcount e = 6 → t.channel.statusOut ≠ 0b00#2)
end

