-- ==== Sys2Proof/Laws/Decode.lean ====
section
/-!
SUPPORT. Decode: the fields that the decoder cuts and the widths they have.
-/

namespace Sys2Proof

theorem lowBits_lt (w n : Nat) : lowBits w n < 2 ^ w :=
  Nat.mod_lt _ (Nat.two_pow_pos w)

theorem lowBits_eq {w n : Nat} (h : n < 2 ^ w) : lowBits w n = n :=
  Nat.mod_eq_of_lt h

theorem bitField_lt (lo w n : Nat) : bitField lo w n < 2 ^ w :=
  lowBits_lt w _

/-- A field is the quotient by its place, modulo its width. -/
theorem bitField_eq (lo w n : Nat) : bitField lo w n = n / 2 ^ lo % 2 ^ w := by
  rw [bitField, lowBits, Nat.shiftRight_eq_div_pow]

theorem fitsPort_iff {w n : Nat} : fitsPort w n = true ↔ n < 2 ^ w := by
  simp [fitsPort]

end Sys2Proof
end

