-- ==== Sys2Proof/Laws/Gf2.lean ====
section
/-!
SUPPORT. Gf2: what popcount, parity, the bit builder and the matrix product do.
-/

namespace Sys2Proof.Machine

/-- Bit i of the value built from `f` is `f i`. -/
@[simp] theorem getLsbD_ofBits (f : Nat → Bool) (w i : Nat) :
    (ofBits f w).getLsbD i = (decide (i < w) && f i) := by
  induction w with
  | zero => simp [ofBits]
  | succ w ih =>
    rw [ofBits, BitVec.getLsbD_cons, ih]
    rcases Nat.lt_trichotomy i w with h | h | h
    · simp [h, Nat.ne_of_lt h, Nat.lt_succ_of_lt h]
    · simp [h]
    · simp [Nat.not_lt.mpr (Nat.le_of_lt h), Nat.ne_of_gt h, Nat.not_lt.mpr (Nat.succ_le_of_lt h)]

/-- Bit j of `v · M` is the dot product of v with column j (R8). -/
@[simp] theorem getLsbD_vecMul {k : Nat} (v : BitVec k) (c : Nat → BitVec k) (n j : Nat) :
    (vecMul v c n).getLsbD j = (decide (j < n) && dot v (c j)) :=
  getLsbD_ofBits _ _ _

/-- popcountNat counts the set bits among the low `w` bits. -/
theorem popcountNat_eq_countP (w n : Nat) :
    popcountNat w n = (List.range w).countP n.testBit := by
  induction w generalizing n with
  | zero => rfl
  | succ w ih =>
    rw [popcountNat, ih, List.range_succ_eq_map, List.countP_cons, List.countP_map, Nat.add_comm]
    congr 1
    · exact List.countP_congr fun i _ => by simp [Nat.testBit_succ]
    · rw [Nat.testBit_zero]
      rcases Nat.mod_two_eq_zero_or_one n with h | h <;> simp [h]

/-- popcount is the number of set bits (R7). -/
theorem popcount_eq_countP {w : Nat} (v : BitVec w) :
    popcount v = (List.range w).countP v.getLsbD :=
  popcountNat_eq_countP w v.toNat

@[simp] theorem popcount_zero (w : Nat) : popcount 0#w = 0 := by
  simp [popcount_eq_countP]

theorem popcount_le {w : Nat} (v : BitVec w) : popcount v ≤ w := by
  rw [popcount_eq_countP]
  simpa using List.countP_le_length (l := List.range w) (p := v.getLsbD)

theorem popcount_eq_zero {w : Nat} {v : BitVec w} : popcount v = 0 ↔ v = 0#w := by
  constructor
  · intro h
    rw [popcount_eq_countP, List.countP_eq_zero] at h
    apply BitVec.eq_of_getLsbD_eq
    intro i hi
    simpa using h i (List.mem_range.mpr hi)
  · rintro rfl
    exact popcount_zero w

/-- The set bits of a XOR: those of either word, less twice those of both. -/
theorem popcount_xor_add {w : Nat} (a b : BitVec w) :
    popcount (a ^^^ b) + 2 * popcount (a &&& b) = popcount a + popcount b := by
  simp only [popcount_eq_countP]
  induction List.range w with
  | nil => rfl
  | cons i l ih =>
    simp only [List.countP_cons, BitVec.getLsbD_xor, BitVec.getLsbD_and]
    cases a.getLsbD i <;> cases b.getLsbD i <;> simp <;> omega

/-- The weight obeys the triangle inequality. -/
theorem popcount_xor_le {w : Nat} (a b : BitVec w) :
    popcount (a ^^^ b) ≤ popcount a + popcount b := by
  have h := popcount_xor_add a b
  omega

/-- Parity is linear over GF(2). -/
@[simp] theorem parity_xor {w : Nat} (a b : BitVec w) :
    parity (a ^^^ b) = (parity a ^^ parity b) := by
  have h := popcount_xor_add a b
  unfold parity
  rcases Nat.mod_two_eq_zero_or_one (popcount a) with ha | ha <;>
    rcases Nat.mod_two_eq_zero_or_one (popcount b) with hb | hb <;>
      simp [ha, hb] <;> omega

@[simp] theorem parity_zero (w : Nat) : parity 0#w = false := by
  simp [parity]

/-- The dot product is linear in its first argument. -/
@[simp] theorem dot_xor_left {w : Nat} (a b c : BitVec w) :
    dot (a ^^^ b) c = (dot a c ^^ dot b c) := by
  have h : (a ^^^ b) &&& c = (a &&& c) ^^^ (b &&& c) := by
    ext i hi
    simp [Bool.and_xor_distrib_right]
  rw [dot, h, parity_xor, dot, dot]

@[simp] theorem dot_zero_left {w : Nat} (c : BitVec w) : dot 0#w c = false := by
  simp [dot]

/-- The matrix product is linear. -/
theorem vecMul_xor {k : Nat} (a b : BitVec k) (c : Nat → BitVec k) (n : Nat) :
    vecMul (a ^^^ b) c n = vecMul a c n ^^^ vecMul b c n := by
  apply BitVec.eq_of_getLsbD_eq
  intro j hj
  rw [BitVec.getLsbD_xor]
  simp only [getLsbD_vecMul, hj, decide_true, Bool.true_and, dot_xor_left]

@[simp] theorem vecMul_zero {k : Nat} (c : Nat → BitVec k) (n : Nat) : vecMul 0#k c n = 0#n := by
  apply BitVec.eq_of_getLsbD_eq
  intro j hj
  rw [getLsbD_vecMul]
  simp

end Sys2Proof.Machine
end

