-- ==== Sys2Proof/Laws/Operands.lean ====
section
/-!
SUPPORT. Operands: the bits of each slice and of each concatenation, and that they undo each other.
-/

namespace Sys2Proof.Machine

@[simp] theorem getLsbD_mPart (w : Word24) (i : Nat) :
    (mPart w).getLsbD i = (decide (i < 12) && w.getLsbD i) := by
  simp [mPart]

@[simp] theorem getLsbD_pPart (w : Word24) (i : Nat) :
    (pPart w).getLsbD i = (decide (i < 12) && w.getLsbD (12 + i)) := by
  simp [pPart]

/-- Bits 11:0 of `{p, m}` are m's and bits 23:12 are p's (R44). -/
theorem getLsbD_joinWord (p m : BitVec 12) (i : Nat) :
    (joinWord p m).getLsbD i = if i < 12 then m.getLsbD i else p.getLsbD (i - 12) := by
  rw [joinWord, BitVec.getLsbD_append]

@[simp] theorem mPart_joinWord (p m : BitVec 12) : mPart (joinWord p m) = m := by
  apply BitVec.eq_of_getLsbD_eq
  intro i hi
  rw [getLsbD_mPart, getLsbD_joinWord, if_pos hi, decide_eq_true hi, Bool.true_and]

@[simp] theorem pPart_joinWord (p m : BitVec 12) : pPart (joinWord p m) = p := by
  apply BitVec.eq_of_getLsbD_eq
  intro i hi
  rw [getLsbD_pPart, getLsbD_joinWord, if_neg (by omega), decide_eq_true hi, Bool.true_and,
    Nat.add_sub_cancel_left]

/-- A word is its p-part over its m-part (R44). -/
@[simp] theorem joinWord_parts (w : Word24) : joinWord (pPart w) (mPart w) = w := by
  apply BitVec.eq_of_getLsbD_eq
  intro i hi
  rw [getLsbD_joinWord]
  split
  · next h => rw [getLsbD_mPart, decide_eq_true h, Bool.true_and]
  · next h =>
    have h1 : i - 12 < 12 := by omega
    have h2 : 12 + (i - 12) = i := by omega
    rw [getLsbD_pPart, decide_eq_true h1, Bool.true_and, h2]

@[simp] theorem entryU_joinEntry (u : Bit) (e : Word24) : entryU (joinEntry u e) = u := by
  apply BitVec.eq_of_getLsbD_eq
  intro i hi
  have h : i = 0 := by omega
  subst h
  rw [entryU, joinEntry, BitVec.getLsbD_extractLsb', BitVec.getLsbD_append]
  simp

@[simp] theorem entryE_joinEntry (u : Bit) (e : Word24) : entryE (joinEntry u e) = e := by
  apply BitVec.eq_of_getLsbD_eq
  intro i hi
  rw [entryE, joinEntry, BitVec.getLsbD_extractLsb', BitVec.getLsbD_append]
  simp [hi]

/-- A ROM entry is its U flag over its error pattern (R46). -/
@[simp] theorem joinEntry_parts (x : LutWord) : joinEntry (entryU x) (entryE x) = x := by
  apply BitVec.eq_of_getLsbD_eq
  intro i hi
  rw [joinEntry, BitVec.getLsbD_append, entryU, entryE, BitVec.getLsbD_extractLsb',
    BitVec.getLsbD_extractLsb']
  by_cases h : i < 24
  · simp [h]
  · have h1 : i = 24 := by omega
    subst h1
    simp

@[simp] theorem trunc12_toNat (m : BitVec 12) : trunc12 m.toNat = m := by
  simp [trunc12]

@[simp] theorem trunc24_toNat (w : Word24) : trunc24 w.toNat = w := by
  simp [trunc24]

@[simp] theorem trunc12_mod (n : Nat) : trunc12 (n % 2 ^ 12) = trunc12 n := by
  apply BitVec.eq_of_toNat_eq
  simp [trunc12]

@[simp] theorem trunc24_mod (n : Nat) : trunc24 (n % 2 ^ 24) = trunc24 n := by
  apply BitVec.eq_of_toNat_eq
  simp [trunc24]

end Sys2Proof.Machine
end

