-- ==== Sys2Proof/Laws/Ops.lean ====
section
/-!
SUPPORT. Ops: what each shared operation can do.
-/

namespace Sys2Proof.Machine

@[simp] theorem mPart_encodeWord (m : Msg) : mPart (encodeWord m) = m :=
  mPart_joinWord _ _

@[simp] theorem pPart_encodeWord (m : Msg) : pPart (encodeWord m) = vecMul m colmaskB 12 :=
  pPart_joinWord _ _

/-- Row k of H has the bits of column k of B in its low half, and one further bit, bit 12 + k (R21). -/
theorem getLsbD_hRow (k c : Nat) :
    (hRow k).getLsbD c = if c < 12 then (colmaskB k).getLsbD c else (1#12 <<< k).getLsbD (c - 12) := by
  rw [hRow, BitVec.getLsbD_append]

/-- The ROM read answers only the entry that R59 fixes. -/
theorem memRead_next {rom : List RomCell} {s : Syn} {x : LutWord} (h : memRead rom s = .next x) :
    x = romContents s := by
  unfold memRead at h
  split at h
  · exact (Host.Outcome.next.inj h).symm
  · split at h
    · next hx => exact (Host.Outcome.next.inj h).symm.trans hx
    · split at h <;> cases h

/-- An index that the ROM does not list reads as R59 fixes. -/
theorem memRead_unlisted {rom : List RomCell} {s : Syn} (h : romListed rom s.toNat = none) :
    memRead rom s = .next (romContents s) := by
  rw [memRead, h]

/-- The hardware's ROM reads as R59 fixes at every index. -/
@[simp] theorem memRead_nil (s : Syn) : memRead [] s = .next (romContents s) := rfl

/-- What one ROM read can do: answer the entry of R59, fault on a listed reserved word, or refuse a
listed word that is not the hardware's. -/
theorem memRead_cases (rom : List RomCell) (s : Syn) :
    memRead rom s = .next (romContents s) ∨
    (memRead rom s = .fault .romReservedEntry ∧
      ∃ x, romListed rom s.toNat = some x ∧ isReservedEntry x = true) ∨
    (memRead rom s = .refused .romOutsideSpec ∧
      ∃ x, romListed rom s.toNat = some x ∧ isReservedEntry x = false ∧ x ≠ romContents s) := by
  cases h : romListed rom s.toNat with
  | none => exact .inl (memRead_unlisted h)
  | some x =>
    by_cases hx : x = romContents s
    · exact .inl (by simp [memRead, h, hx])
    · cases hr : isReservedEntry x with
      | true => exact .inr (.inl ⟨by simp [memRead, h, hx, hr], x, rfl, hr⟩)
      | false => exact .inr (.inr ⟨by simp [memRead, h, hx, hr], x, rfl, hr, hx⟩)

/-- A listing from `low` on is a listing from any lower index on. -/
theorem Memory.wfFrom_mono {low low' : Nat} (h : low' ≤ low) (rom : List RomCell)
    (hw : Memory.wfFrom low rom = true) : Memory.wfFrom low' rom = true := by
  cases rom with
  | nil => rfl
  | cons c rest =>
    obtain ⟨a, x⟩ := c
    simp only [Memory.wfFrom, Bool.and_eq_true, decide_eq_true_eq] at hw ⊢
    obtain ⟨⟨⟨h1, h2⟩, h3⟩, h4⟩ := hw
    exact ⟨⟨⟨h.trans h1, h2⟩, h3⟩, h4⟩

/-- The hardware's ROM is in canonical form. -/
@[simp] theorem Memory.wf_nil : Memory.wf [] = true := rfl

/-- A word in canonical form that the ROM lists differs from the contents of R59 and lies in the ROM. -/
theorem romListed_of_wf {rom : List RomCell} {low a : Nat} {x : LutWord}
    (hw : Memory.wfFrom low rom = true) (h : romListed rom a = some x) :
    low ≤ a ∧ a < Config.romDepth ∧ x ≠ romImage a := by
  induction rom generalizing low with
  | nil => cases h
  | cons c rest ih =>
    obtain ⟨b, y⟩ := c
    simp only [Memory.wfFrom, Bool.and_eq_true, decide_eq_true_eq, bne_iff_ne] at hw
    obtain ⟨⟨⟨h1, h2⟩, h3⟩, h4⟩ := hw
    rw [romListed] at h
    split at h
    · next hb =>
      subst hb
      cases h
      exact ⟨h1, h2, h3⟩
    · obtain ⟨h5, h6, h7⟩ := ih h4 h
      exact ⟨by omega, h6, h7⟩

@[simp] theorem encoderPorts_encMsg (m : Msg) : (encoderPorts m).encMsg = m := rfl
@[simp] theorem encoderPorts_encCw (m : Msg) : (encoderPorts m).encCw = encodeWord m := rfl

@[simp] theorem syndromePorts_synRx (r : Word24) : (syndromePorts r).synRx = r := rfl
@[simp] theorem syndromePorts_synS (r : Word24) : (syndromePorts r).synS = syndromeOf r := rfl

@[simp] theorem lookupPorts_lutS (s : Syn) (x : LutWord) : (lookupPorts s x).lutS = s := rfl
@[simp] theorem lookupPorts_lutU (s : Syn) (x : LutWord) : (lookupPorts s x).lutU = entryU x := rfl
@[simp] theorem lookupPorts_lutE (s : Syn) (x : LutWord) : (lookupPorts s x).lutE = entryE x := rfl

@[simp] theorem correctorPorts_corRx (r : Word24) (u : Bit) (e : Word24) :
    (correctorPorts r u e).corRx = r := rfl
@[simp] theorem correctorPorts_corU (r : Word24) (u : Bit) (e : Word24) :
    (correctorPorts r u e).corU = u := rfl
@[simp] theorem correctorPorts_corE (r : Word24) (u : Bit) (e : Word24) :
    (correctorPorts r u e).corE = e := rfl
@[simp] theorem correctorPorts_corCw (r : Word24) (u : Bit) (e : Word24) :
    (correctorPorts r u e).corCw = correctedWord r u e := rfl
@[simp] theorem correctorPorts_corOk (r : Word24) (u : Bit) (e : Word24) :
    (correctorPorts r u e).corOk = outcomeOk u := rfl
@[simp] theorem correctorPorts_corStatus (r : Word24) (u : Bit) (e : Word24) :
    (correctorPorts r u e).corStatus = outcomeStatus u e := rfl

@[simp] theorem extractorPorts_extCw (w : Word24) : (extractorPorts w).extCw = w := rfl
@[simp] theorem extractorPorts_extMsg (w : Word24) : (extractorPorts w).extMsg = extractMsg w := rfl

@[simp] theorem channelPorts_rxIn (r : Word24) (x : LutWord) : (channelPorts r x).rxIn = r := rfl
@[simp] theorem channelPorts_syndromeOut (r : Word24) (x : LutWord) :
    (channelPorts r x).syndromeOut = syndromeOf r := rfl
@[simp] theorem channelPorts_netU (r : Word24) (x : LutWord) :
    (channelPorts r x).netU = entryU x := rfl
@[simp] theorem channelPorts_netE (r : Word24) (x : LutWord) :
    (channelPorts r x).netE = entryE x := rfl
@[simp] theorem channelPorts_correctedOut (r : Word24) (x : LutWord) :
    (channelPorts r x).correctedOut = correctedWord r (entryU x) (entryE x) := rfl
@[simp] theorem channelPorts_okOut (r : Word24) (x : LutWord) :
    (channelPorts r x).okOut = outcomeOk (entryU x) := rfl
@[simp] theorem channelPorts_statusOut (r : Word24) (x : LutWord) :
    (channelPorts r x).statusOut = outcomeStatus (entryU x) (entryE x) := rfl
@[simp] theorem channelPorts_msgOut (r : Word24) (x : LutWord) :
    (channelPorts r x).msgOut = extractMsg (correctedWord r (entryU x) (entryE x)) := rfl

@[simp] theorem correctedWord_one (r e : Word24) : correctedWord r 1#1 e = r := rfl
@[simp] theorem correctedWord_zero (r e : Word24) : correctedWord r 0#1 e = r ^^^ e := rfl
@[simp] theorem outcomeOk_one : outcomeOk 1#1 = 0#1 := rfl
@[simp] theorem outcomeOk_zero : outcomeOk 0#1 = 1#1 := rfl
@[simp] theorem outcomeStatus_one (e : Word24) : outcomeStatus 1#1 e = statusUncorrectable := rfl
theorem outcomeStatus_zero (e : Word24) :
    outcomeStatus 0#1 e = if e = 0#24 then statusClean else statusCorrected := rfl

/-- A one-bit value is 0 or 1. -/
theorem bit_cases (u : Bit) : u = 0#1 ∨ u = 1#1 := by
  revert u
  decide

end Sys2Proof.Machine
end

