-- ==== Sys2Proof/Laws/State.lean ====
section
/-!
SUPPORT. State: for each update of the state, what each field holds after it.
-/

namespace Sys2Proof.Machine

@[simp] theorem State.setEncoder_rom (s : State) (p : EncoderPorts) : (s.setEncoder p).rom = s.rom := rfl
@[simp] theorem State.setEncoder_encoder (s : State) (p : EncoderPorts) : (s.setEncoder p).encoder = p := rfl
@[simp] theorem State.setEncoder_syndrome (s : State) (p : EncoderPorts) : (s.setEncoder p).syndrome = s.syndrome := rfl
@[simp] theorem State.setEncoder_lookup (s : State) (p : EncoderPorts) : (s.setEncoder p).lookup = s.lookup := rfl
@[simp] theorem State.setEncoder_corrector (s : State) (p : EncoderPorts) : (s.setEncoder p).corrector = s.corrector := rfl
@[simp] theorem State.setEncoder_extractor (s : State) (p : EncoderPorts) : (s.setEncoder p).extractor = s.extractor := rfl
@[simp] theorem State.setEncoder_channel (s : State) (p : EncoderPorts) : (s.setEncoder p).channel = s.channel := rfl
@[simp] theorem State.setEncoder_pending (s : State) (p : EncoderPorts) : (s.setEncoder p).pending = s.pending := rfl

@[simp] theorem State.setSyndrome_rom (s : State) (p : SyndromePorts) : (s.setSyndrome p).rom = s.rom := rfl
@[simp] theorem State.setSyndrome_encoder (s : State) (p : SyndromePorts) : (s.setSyndrome p).encoder = s.encoder := rfl
@[simp] theorem State.setSyndrome_syndrome (s : State) (p : SyndromePorts) : (s.setSyndrome p).syndrome = p := rfl
@[simp] theorem State.setSyndrome_lookup (s : State) (p : SyndromePorts) : (s.setSyndrome p).lookup = s.lookup := rfl
@[simp] theorem State.setSyndrome_corrector (s : State) (p : SyndromePorts) : (s.setSyndrome p).corrector = s.corrector := rfl
@[simp] theorem State.setSyndrome_extractor (s : State) (p : SyndromePorts) : (s.setSyndrome p).extractor = s.extractor := rfl
@[simp] theorem State.setSyndrome_channel (s : State) (p : SyndromePorts) : (s.setSyndrome p).channel = s.channel := rfl
@[simp] theorem State.setSyndrome_pending (s : State) (p : SyndromePorts) : (s.setSyndrome p).pending = s.pending := rfl

@[simp] theorem State.setLookup_rom (s : State) (p : LookupPorts) : (s.setLookup p).rom = s.rom := rfl
@[simp] theorem State.setLookup_encoder (s : State) (p : LookupPorts) : (s.setLookup p).encoder = s.encoder := rfl
@[simp] theorem State.setLookup_syndrome (s : State) (p : LookupPorts) : (s.setLookup p).syndrome = s.syndrome := rfl
@[simp] theorem State.setLookup_lookup (s : State) (p : LookupPorts) : (s.setLookup p).lookup = p := rfl
@[simp] theorem State.setLookup_corrector (s : State) (p : LookupPorts) : (s.setLookup p).corrector = s.corrector := rfl
@[simp] theorem State.setLookup_extractor (s : State) (p : LookupPorts) : (s.setLookup p).extractor = s.extractor := rfl
@[simp] theorem State.setLookup_channel (s : State) (p : LookupPorts) : (s.setLookup p).channel = s.channel := rfl
@[simp] theorem State.setLookup_pending (s : State) (p : LookupPorts) : (s.setLookup p).pending = s.pending := rfl

@[simp] theorem State.setCorrector_rom (s : State) (p : CorrectorPorts) : (s.setCorrector p).rom = s.rom := rfl
@[simp] theorem State.setCorrector_encoder (s : State) (p : CorrectorPorts) : (s.setCorrector p).encoder = s.encoder := rfl
@[simp] theorem State.setCorrector_syndrome (s : State) (p : CorrectorPorts) : (s.setCorrector p).syndrome = s.syndrome := rfl
@[simp] theorem State.setCorrector_lookup (s : State) (p : CorrectorPorts) : (s.setCorrector p).lookup = s.lookup := rfl
@[simp] theorem State.setCorrector_corrector (s : State) (p : CorrectorPorts) : (s.setCorrector p).corrector = p := rfl
@[simp] theorem State.setCorrector_extractor (s : State) (p : CorrectorPorts) : (s.setCorrector p).extractor = s.extractor := rfl
@[simp] theorem State.setCorrector_channel (s : State) (p : CorrectorPorts) : (s.setCorrector p).channel = s.channel := rfl
@[simp] theorem State.setCorrector_pending (s : State) (p : CorrectorPorts) : (s.setCorrector p).pending = s.pending := rfl

@[simp] theorem State.setExtractor_rom (s : State) (p : ExtractorPorts) : (s.setExtractor p).rom = s.rom := rfl
@[simp] theorem State.setExtractor_encoder (s : State) (p : ExtractorPorts) : (s.setExtractor p).encoder = s.encoder := rfl
@[simp] theorem State.setExtractor_syndrome (s : State) (p : ExtractorPorts) : (s.setExtractor p).syndrome = s.syndrome := rfl
@[simp] theorem State.setExtractor_lookup (s : State) (p : ExtractorPorts) : (s.setExtractor p).lookup = s.lookup := rfl
@[simp] theorem State.setExtractor_corrector (s : State) (p : ExtractorPorts) : (s.setExtractor p).corrector = s.corrector := rfl
@[simp] theorem State.setExtractor_extractor (s : State) (p : ExtractorPorts) : (s.setExtractor p).extractor = p := rfl
@[simp] theorem State.setExtractor_channel (s : State) (p : ExtractorPorts) : (s.setExtractor p).channel = s.channel := rfl
@[simp] theorem State.setExtractor_pending (s : State) (p : ExtractorPorts) : (s.setExtractor p).pending = s.pending := rfl

@[simp] theorem State.setChannel_rom (s : State) (p : ChannelPorts) : (s.setChannel p).rom = s.rom := rfl
@[simp] theorem State.setChannel_encoder (s : State) (p : ChannelPorts) : (s.setChannel p).encoder = s.encoder := rfl
@[simp] theorem State.setChannel_syndrome (s : State) (p : ChannelPorts) : (s.setChannel p).syndrome = s.syndrome := rfl
@[simp] theorem State.setChannel_lookup (s : State) (p : ChannelPorts) : (s.setChannel p).lookup = s.lookup := rfl
@[simp] theorem State.setChannel_corrector (s : State) (p : ChannelPorts) : (s.setChannel p).corrector = s.corrector := rfl
@[simp] theorem State.setChannel_extractor (s : State) (p : ChannelPorts) : (s.setChannel p).extractor = s.extractor := rfl
@[simp] theorem State.setChannel_channel (s : State) (p : ChannelPorts) : (s.setChannel p).channel = p := rfl
@[simp] theorem State.setChannel_pending (s : State) (p : ChannelPorts) : (s.setChannel p).pending = s.pending := rfl

@[simp] theorem State.setPending_rom (s : State) (p : List Transaction) : (s.setPending p).rom = s.rom := rfl
@[simp] theorem State.setPending_encoder (s : State) (p : List Transaction) : (s.setPending p).encoder = s.encoder := rfl
@[simp] theorem State.setPending_syndrome (s : State) (p : List Transaction) : (s.setPending p).syndrome = s.syndrome := rfl
@[simp] theorem State.setPending_lookup (s : State) (p : List Transaction) : (s.setPending p).lookup = s.lookup := rfl
@[simp] theorem State.setPending_corrector (s : State) (p : List Transaction) : (s.setPending p).corrector = s.corrector := rfl
@[simp] theorem State.setPending_extractor (s : State) (p : List Transaction) : (s.setPending p).extractor = s.extractor := rfl
@[simp] theorem State.setPending_channel (s : State) (p : List Transaction) : (s.setPending p).channel = s.channel := rfl
@[simp] theorem State.setPending_pending (s : State) (p : List Transaction) : (s.setPending p).pending = p := rfl

end Sys2Proof.Machine
end

