-- ==== Sys2Proof/Laws/Exec.lean ====
section
/-!
SUPPORT. Exec: for each meaning, the next state it answers.
-/

namespace Sys2Proof.Machine

@[simp] theorem exec_encode (n : Nat) (s : State) :
    exec (.encode n) s = .next (s.setEncoder (encoderPorts (trunc12 n))) := rfl

@[simp] theorem exec_syndrome (n : Nat) (s : State) :
    exec (.syndrome n) s = .next (s.setSyndrome (syndromePorts (trunc24 n))) := rfl

@[simp] theorem exec_correct (u : Bit) (e r : Nat) (s : State) :
    exec (.correct u e r) s =
      .next (s.setCorrector (correctorPorts (trunc24 r) u (trunc24 e))) := rfl

@[simp] theorem exec_extract (n : Nat) (s : State) :
    exec (.extract n) s = .next (s.setExtractor (extractorPorts (trunc24 n))) := rfl

/-- LOOKUP ends as the ROM read ends. -/
theorem exec_lookup (n : Nat) (s : State) :
    exec (.lookup n) s =
      match memRead s.rom (trunc12 n) with
      | .next x => .next (s.setLookup (lookupPorts (trunc12 n) x))
      | .fault f => .fault f
      | .refused r => .refused r := rfl

/-- ECC ends as its ROM read ends. -/
theorem exec_ecc (n : Nat) (s : State) :
    exec (.ecc n) s =
      match memRead s.rom (syndromeOf (trunc24 n)) with
      | .next x => .next (s.setChannel (channelPorts (trunc24 n) x))
      | .fault f => .fault f
      | .refused r => .refused r := rfl

/-- On the hardware's ROM, LOOKUP completes with the entry of R59. -/
theorem exec_lookup_intact (n : Nat) {s : State} (h : s.rom = []) :
    exec (.lookup n) s =
      .next (s.setLookup (lookupPorts (trunc12 n) (romContents (trunc12 n)))) := by
  rw [exec_lookup, h]
  rfl

/-- On the hardware's ROM, ECC completes with the entry of R59 for its syndrome. -/
theorem exec_ecc_intact (n : Nat) {s : State} (h : s.rom = []) :
    exec (.ecc n) s =
      .next (s.setChannel (channelPorts (trunc24 n) (romContents (syndromeOf (trunc24 n))))) := by
  rw [exec_ecc, h]
  rfl

/-- Where LOOKUP answers a next state, it has read the entry of R59. -/
theorem exec_lookup_next {n : Nat} {s t : State} (h : exec (.lookup n) s = .next t) :
    t = s.setLookup (lookupPorts (trunc12 n) (romContents (trunc12 n))) := by
  rw [exec_lookup] at h
  split at h
  · next x hx =>
    rw [← memRead_next hx]
    exact (Host.Outcome.next.inj h).symm
  · cases h
  · cases h

/-- Where ECC answers a next state, it has read the entry of R59. -/
theorem exec_ecc_next {n : Nat} {s t : State} (h : exec (.ecc n) s = .next t) :
    t = s.setChannel (channelPorts (trunc24 n) (romContents (syndromeOf (trunc24 n)))) := by
  rw [exec_ecc] at h
  split at h
  · next x hx =>
    rw [← memRead_next hx]
    exact (Host.Outcome.next.inj h).symm
  · cases h
  · cases h

/-- Everything one operation can do when it answers a next state: it replaces the ports of its own unit
by the values its rule gives, and nothing else. -/
theorem exec_next_cases {i : Instr} {s t : State} (h : exec i s = .next t) :
    (∃ n, i = .encode n ∧ t = s.setEncoder (encoderPorts (trunc12 n))) ∨
    (∃ n, i = .syndrome n ∧ t = s.setSyndrome (syndromePorts (trunc24 n))) ∨
    (∃ n, i = .lookup n ∧
      t = s.setLookup (lookupPorts (trunc12 n) (romContents (trunc12 n)))) ∨
    (∃ u e r, i = .correct u e r ∧
      t = s.setCorrector (correctorPorts (trunc24 r) u (trunc24 e))) ∨
    (∃ n, i = .extract n ∧ t = s.setExtractor (extractorPorts (trunc24 n))) ∨
    (∃ n, i = .ecc n ∧
      t = s.setChannel (channelPorts (trunc24 n) (romContents (syndromeOf (trunc24 n))))) := by
  cases i with
  | encode n => exact .inl ⟨n, rfl, (Host.Outcome.next.inj h).symm⟩
  | syndrome n => exact .inr (.inl ⟨n, rfl, (Host.Outcome.next.inj h).symm⟩)
  | lookup n => exact .inr (.inr (.inl ⟨n, rfl, exec_lookup_next h⟩))
  | correct u e r =>
    exact .inr (.inr (.inr (.inl ⟨u, e, r, rfl, (Host.Outcome.next.inj h).symm⟩)))
  | extract n =>
    exact .inr (.inr (.inr (.inr (.inl ⟨n, rfl, (Host.Outcome.next.inj h).symm⟩))))
  | ecc n => exact .inr (.inr (.inr (.inr (.inr ⟨n, rfl, exec_ecc_next h⟩))))

end Sys2Proof.Machine
end

