-- ==== Sys2Proof/Laws/PerInstr.lean ====
section
/-!
SUPPORT. PerInstr: facts about every instruction as syntax, one lemma a constructor.
-/

namespace Sys2Proof.Laws.EncodedVectorFits

/-- The input vector of a well-formed instruction fits the width of its unit (R49). -/
def Statement (i : Instr) : Prop := i.wellFormed = true → i.vector < 2 ^ i.coreUnit.width

theorem encode (encMsg : Nat) : Statement (.encode encMsg) := fitsPort_iff.mp

theorem syndrome (synRx : Nat) : Statement (.syndrome synRx) := fitsPort_iff.mp

theorem lookup (lutS : Nat) : Statement (.lookup lutS) := fitsPort_iff.mp

theorem correct (corU : Bit) (corE corRx : Nat) : Statement (.correct corU corE corRx) := by
  intro h
  rw [Instr.wellFormed, Bool.and_eq_true, fitsPort_iff, fitsPort_iff] at h
  obtain ⟨he, hr⟩ := h
  have hu : corU.toNat < 2 := corU.isLt
  simp only [Instr.vector, Instr.coreUnit, CoreUnit.width, Config.codewordWidth,
    Config.correctVectorWidth] at *
  omega

theorem extract (extCw : Nat) : Statement (.extract extCw) := fitsPort_iff.mp

theorem ecc (rxIn : Nat) : Statement (.ecc rxIn) := fitsPort_iff.mp

end Sys2Proof.Laws.EncodedVectorFits
end

