-- ==== Sys2Proof/Laws/Rom.lean ====
section
/-!
SUPPORT. Rom: the error patterns that the construction loop enumerates, and that the ROM's image is what the
loop gives at every index.
-/

namespace Sys2Proof.Laws

open Sys2Proof.Machine

theorem popcountNat_succ_top (n x : Nat) :
    popcountNat (n + 1) x = popcountNat n x + (x.testBit n).toNat := by
  rw [popcountNat_eq_countP, popcountNat_eq_countP, List.range_succ, List.countP_append]
  cases h : x.testBit n <;> simp [h]

theorem popcountNat_add_two_pow {n x : Nat} : popcountNat n (x + 2 ^ n) = popcountNat n x := by
  rw [popcountNat_eq_countP, popcountNat_eq_countP]
  refine List.countP_congr fun i hi => ?_
  rw [Nat.add_comm, Nat.testBit_two_pow_add_gt (List.mem_range.mp hi)]

/-- A number below 2^n has no set bit exactly when it is 0. -/
theorem popcountNat_eq_zero {n x : Nat} (h : x < 2 ^ n) : popcountNat n x = 0 ↔ x = 0 := by
  have hz := popcount_eq_zero (v := BitVec.ofNat n x)
  rw [popcount, BitVec.toNat_ofNat, Nat.mod_eq_of_lt h] at hz
  rw [hz, ← BitVec.toNat_inj, BitVec.toNat_ofNat, Nat.mod_eq_of_lt h]
  simp

/-- The list holds exactly the numbers below 2^n with w set bits. -/
theorem mem_patternsOfWeight {n w x : Nat} :
    x ∈ patternsOfWeight n w ↔ x < 2 ^ n ∧ popcountNat n x = w := by
  induction n generalizing w x with
  | zero =>
    cases w with
    | zero => simp [patternsOfWeight, popcountNat]
    | succ w => simp [patternsOfWeight, popcountNat]
  | succ n ih =>
    cases w with
    | zero =>
      rw [patternsOfWeight, List.mem_singleton]
      constructor
      · rintro rfl
        exact ⟨Nat.two_pow_pos _, (popcountNat_eq_zero (Nat.two_pow_pos _)).mpr rfl⟩
      · rintro ⟨h1, h2⟩
        exact (popcountNat_eq_zero h1).mp h2
    | succ w =>
      rw [patternsOfWeight, List.mem_append, List.mem_map, ih, popcountNat_succ_top, Nat.pow_succ]
      constructor
      · rintro (⟨h1, h2⟩ | ⟨y, hy, rfl⟩)
        · rw [Nat.testBit_lt_two_pow h1]
          exact ⟨by omega, h2⟩
        · rw [ih] at hy
          rw [popcountNat_add_two_pow, Nat.add_comm y, Nat.testBit_two_pow_add_eq,
            Nat.testBit_lt_two_pow hy.1]
          exact ⟨by omega, by simp [hy.2]⟩
      · rintro ⟨h1, h2⟩
        by_cases h : x < 2 ^ n
        · rw [Nat.testBit_lt_two_pow h] at h2
          exact .inl ⟨h, h2⟩
        · obtain ⟨y, rfl⟩ := Nat.exists_eq_add_of_le' (Nat.le_of_not_lt h)
          have hy : y < 2 ^ n := by omega
          rw [popcountNat_add_two_pow, Nat.add_comm y, Nat.testBit_two_pow_add_eq,
            Nat.testBit_lt_two_pow hy] at h2
          exact .inr ⟨y, ih.mpr ⟨hy, by simpa using h2⟩, Nat.add_comm _ _ ▸ rfl⟩

/-- The loop of R61 enumerates exactly the patterns of weight at most 3. -/
theorem mem_errorPatterns {e : Word24} : e ∈ errorPatterns ↔ popcount e ≤ 3 := by
  have hm : e ∈ errorPatterns ↔ ∃ x, (∃ w ∈ [0, 1, 2, 3], x ∈ patternsOfWeight 24 w) ∧
      BitVec.ofNat 24 x = e := by
    simp only [errorPatterns, List.mem_map, List.mem_flatMap]
  rw [hm]
  constructor
  · rintro ⟨x, ⟨w, hw, hx⟩, rfl⟩
    obtain ⟨h1, h2⟩ := mem_patternsOfWeight.mp hx
    rw [popcount, BitVec.toNat_ofNat, Nat.mod_eq_of_lt h1, h2]
    simp only [List.mem_cons, List.not_mem_nil, or_false] at hw
    omega
  · intro h
    refine ⟨e.toNat, ⟨popcount e, ?_, mem_patternsOfWeight.mpr ⟨e.isLt, rfl⟩⟩, by simp⟩
    simp only [List.mem_cons, List.not_mem_nil, or_false]
    omega

end Sys2Proof.Laws
end

