-- ==== Sys2Proof/Laws/RomImage.lean ====
section
/-!
SUPPORT. RomImage: the image of the ROM is what the defining rule gives at every index. Each enumerated pattern
stands at its own syndrome, and the image has no more correctable entries than there are patterns.
-/

-- One declaration at a time: a thread that waits for a kernel evaluation still holds its stack.
set_option Elab.async false

namespace Sys2Proof.Laws

open Sys2Proof.Machine

/-- The syndromes of the 24 single errors (the table of R62). -/
def singleSyndromes : List Nat :=
  [0xA3B, 0xC76, 0x8ED, 0x9DA, 0xBB4, 0xF68, 0xED1, 0xDA3, 0xB47, 0xE8E, 0xD1D, 0x7FF,
   0x001, 0x002, 0x004, 0x008, 0x010, 0x020, 0x040, 0x080, 0x100, 0x200, 0x400, 0x800]

/-- The patterns, each with its syndrome as the XOR of its single errors' syndromes (R62). -/
def patternsWithSyndrome : (n w : Nat) → List (Nat × Nat)
  | _, 0 => [(0, 0)]
  | 0, _ + 1 => []
  | n + 1, w + 1 =>
    patternsWithSyndrome n (w + 1) ++
      (patternsWithSyndrome n w).map (fun p => (p.1 + 2 ^ n, p.2 ^^^ singleSyndromes.getD n 0))

theorem map_fst_patternsWithSyndrome (n w : Nat) :
    (patternsWithSyndrome n w).map Prod.fst = patternsOfWeight n w := by
  induction n generalizing w with
  | zero => cases w <;> rfl
  | succ n ih =>
    cases w with
    | zero => rfl
    | succ w => simp [patternsWithSyndrome, patternsOfWeight, ← ih, Function.comp_def]

theorem syndromeOf_xor (a b : Word24) : syndromeOf (a ^^^ b) = syndromeOf a ^^^ syndromeOf b :=
  vecMul_xor a b hRow 12

theorem syndromeOf_two_pow : ∀ c < 24,
    (syndromeOf (BitVec.ofNat 24 (2 ^ c))).toNat = singleSyndromes.getD c 0 := by
  decide +kernel

theorem ofNat_add_two_pow {n x : Nat} (h : x < 2 ^ n) :
    BitVec.ofNat 24 (x + 2 ^ n) = BitVec.ofNat 24 x ^^^ BitVec.ofNat 24 (2 ^ n) := by
  rw [← BitVec.ofNat_xor]
  congr 1
  apply Nat.eq_of_testBit_eq
  intro i
  rw [Nat.testBit_xor, Nat.add_comm, Nat.testBit_two_pow]
  rcases Nat.lt_trichotomy i n with hi | rfl | hi
  · rw [Nat.testBit_two_pow_add_gt hi]
    simp [Nat.ne_of_gt hi]
  · rw [Nat.testBit_two_pow_add_eq, Nat.testBit_lt_two_pow h]
    simp
  · have h1 : 2 ^ n + x < 2 ^ i :=
      lt_of_lt_of_le (by rw [Nat.pow_succ]; omega) (Nat.pow_le_pow_right (by omega) hi)
    rw [Nat.testBit_lt_two_pow h1, Nat.testBit_lt_two_pow (by omega)]
    simp [Nat.ne_of_lt hi]

theorem snd_patternsWithSyndrome {n w : Nat} (hn : n ≤ 24) :
    ∀ p ∈ patternsWithSyndrome n w,
      p.1 < 2 ^ n ∧ p.2 = (syndromeOf (BitVec.ofNat 24 p.1)).toNat := by
  induction n generalizing w with
  | zero =>
    cases w with
    | zero =>
      intro p hp
      rw [List.mem_singleton.mp hp]
      exact ⟨by decide, by rw [syndromeOf, vecMul_zero]; rfl⟩
    | succ w => intro p hp; cases hp
  | succ n ih =>
    cases w with
    | zero =>
      intro p hp
      rw [List.mem_singleton.mp hp]
      exact ⟨Nat.two_pow_pos _, by rw [syndromeOf, vecMul_zero]; rfl⟩
    | succ w =>
      intro p hp
      rw [patternsWithSyndrome, List.mem_append, List.mem_map] at hp
      obtain hp | ⟨q, hq, rfl⟩ := hp
      · obtain ⟨h1, h2⟩ := ih (by omega) p hp
        exact ⟨h1.trans (Nat.pow_lt_pow_right (by omega) (by omega)), h2⟩
      · obtain ⟨h1, h2⟩ := ih (by omega) q hq
        refine ⟨by simp only [Nat.pow_succ]; omega, ?_⟩
        simp only
        rw [ofNat_add_two_pow h1, syndromeOf_xor, BitVec.toNat_xor, ← h2,
          syndromeOf_two_pow n (by omega)]

/-- The image holds the pattern, with U = 0, at its syndrome. -/
def holdsPattern (p : Nat × Nat) : Bool := (romImage p.2).toNat == p.1

theorem image_weight_zero : (patternsWithSyndrome 24 0).all holdsPattern = true := by
  decide +kernel

theorem image_weight_one : (patternsWithSyndrome 24 1).all holdsPattern = true := by
  decide +kernel

theorem image_weight_two : (patternsWithSyndrome 24 2).all holdsPattern = true := by
  decide +kernel

theorem image_weight_three : (patternsWithSyndrome 24 3).all holdsPattern = true := by
  decide +kernel

/-- The image has 2325 correctable entries (R60). -/
theorem image_correctable :
    (List.range 4096).countP (fun s => (romImage s).toNat != 0x1000000) = 2325 := by
  decide +kernel

theorem patternsOfWeight_holds {w x : Nat} (hw : w ≤ 3) (hx : x ∈ patternsOfWeight 24 w) :
    (romContents (syndromeOf (BitVec.ofNat 24 x))).toNat = x := by
  rw [← map_fst_patternsWithSyndrome, List.mem_map] at hx
  obtain ⟨p, hp, rfl⟩ := hx
  have h := (snd_patternsWithSyndrome (Nat.le_refl 24) p hp).2
  have hall : (patternsWithSyndrome 24 w).all holdsPattern = true := by
    obtain rfl | rfl | rfl | rfl : w = 0 ∨ w = 1 ∨ w = 2 ∨ w = 3 := by omega
    · exact image_weight_zero
    · exact image_weight_one
    · exact image_weight_two
    · exact image_weight_three
  have h2 := List.all_eq_true.mp hall p hp
  rw [holdsPattern, h] at h2
  exact eq_of_beq h2

theorem joinEntry_zero_toNat (e : Word24) : (joinEntry 0#1 e).toNat = e.toNat := by
  rw [joinEntry, BitVec.toNat_append]
  simp

/-- Every pattern of weight at most 3 stands at its syndrome. -/
theorem romContents_syndromeOf {e : Word24} (h : popcount e ≤ 3) :
    romContents (syndromeOf e) = joinEntry 0#1 e := by
  apply BitVec.eq_of_toNat_eq
  rw [joinEntry_zero_toNat]
  have h2 := patternsOfWeight_holds h (mem_patternsOfWeight.mpr ⟨e.isLt, rfl⟩)
  rwa [BitVec.ofNat_toNat, BitVec.setWidth_eq] at h2

/-- The syndromes of the enumerated patterns. -/
def patternSyndromes : Finset Nat := (errorPatterns.map (fun e => (syndromeOf e).toNat)).toFinset

/-- The indices of the image's correctable entries. -/
def correctableIndices : Finset Nat :=
  (Finset.range 4096).filter (fun s => ((romImage s).toNat != 0x1000000) = true)

theorem sentinel_toNat : sentinel.toNat = 0x1000000 := by decide

theorem length_errorPatterns : errorPatterns.length = 2325 := by
  decide +kernel

theorem nodup_patternsOfWeight (n w : Nat) : (patternsOfWeight n w).Nodup := by
  induction n generalizing w with
  | zero => cases w <;> simp [patternsOfWeight]
  | succ n ih =>
    cases w with
    | zero => simp [patternsOfWeight]
    | succ w =>
      rw [patternsOfWeight, List.nodup_append']
      refine ⟨ih _, (ih w).map (fun a b h => Nat.add_right_cancel h), ?_⟩
      intro x hx hy
      obtain ⟨y, -, rfl⟩ := List.mem_map.mp hy
      have := (mem_patternsOfWeight.mp hx).1
      omega

theorem nodup_errorPatterns : errorPatterns.Nodup := by
  rw [errorPatterns]
  refine List.Nodup.map_on ?_ (List.nodup_flatMap.mpr ⟨fun w _ => nodup_patternsOfWeight 24 w, ?_⟩)
  · intro x hx y hy h
    obtain ⟨_, -, hx⟩ := List.mem_flatMap.mp hx
    obtain ⟨_, -, hy⟩ := List.mem_flatMap.mp hy
    have h2 := congrArg BitVec.toNat h
    rwa [BitVec.toNat_ofNat, BitVec.toNat_ofNat, Nat.mod_eq_of_lt (mem_patternsOfWeight.mp hx).1,
      Nat.mod_eq_of_lt (mem_patternsOfWeight.mp hy).1] at h2
  · have hne : List.Pairwise (fun a b : Nat => a ≠ b) [0, 1, 2, 3] := by decide
    refine hne.imp fun {a b} hab => ?_
    intro x hx hy
    exact hab ((mem_patternsOfWeight.mp hx).2.symm.trans (mem_patternsOfWeight.mp hy).2)

/-- No two enumerated patterns share a syndrome: the image tells them apart. -/
theorem card_patternSyndromes : patternSyndromes.card = 2325 := by
  rw [patternSyndromes, List.toFinset_card_of_nodup, List.length_map, length_errorPatterns]
  refine nodup_errorPatterns.map_on fun a ha b hb h => ?_
  have h2 : syndromeOf a = syndromeOf b := BitVec.eq_of_toNat_eq h
  have h3 := romContents_syndromeOf (mem_errorPatterns.mp ha)
  rw [h2, romContents_syndromeOf (mem_errorPatterns.mp hb)] at h3
  have h4 := congrArg entryE h3
  rw [entryE_joinEntry, entryE_joinEntry] at h4
  exact h4.symm

theorem card_correctableIndices : correctableIndices.card = 2325 := by
  have h : correctableIndices =
      ((List.range 4096).filter (fun s => (romImage s).toNat != 0x1000000)).toFinset := by
    ext s
    rw [correctableIndices, Finset.mem_filter, Finset.mem_range, List.mem_toFinset, List.mem_filter,
      List.mem_range]
  rw [h, List.toFinset_card_of_nodup (List.nodup_range.filter _), ← List.countP_eq_length_filter]
  exact image_correctable

/-- The correctable indices are exactly the syndromes of the patterns. -/
theorem patternSyndromes_eq : patternSyndromes = correctableIndices := by
  refine Finset.eq_of_subset_of_card_le ?_ ?_
  · intro s hs
    rw [patternSyndromes, List.mem_toFinset, List.mem_map] at hs
    obtain ⟨e, he, rfl⟩ := hs
    rw [correctableIndices, Finset.mem_filter, Finset.mem_range]
    refine ⟨(syndromeOf e).isLt, ?_⟩
    have h := romContents_syndromeOf (mem_errorPatterns.mp he)
    rw [romContents] at h
    rw [h, joinEntry_zero_toNat, bne_iff_ne]
    have := e.isLt
    omega
  · rw [card_patternSyndromes, card_correctableIndices]

/-- The ROM's image is what the defining rule gives at every index (R59, R61). -/
theorem romContents_eq_romRule (s : Syn) : romContents s = romRule s := by
  unfold romRule
  split
  · next e he =>
    have h1 := List.find?_some he
    have h2 := mem_errorPatterns.mp (List.mem_of_find?_eq_some he)
    rw [← eq_of_beq h1]
    exact romContents_syndromeOf h2
  · next hn =>
    have hs : s.toNat ∉ correctableIndices := by
      rw [← patternSyndromes_eq, patternSyndromes, List.mem_toFinset, List.mem_map]
      rintro ⟨e, he, h⟩
      exact List.find?_eq_none.mp hn e he (beq_iff_eq.mpr (BitVec.eq_of_toNat_eq h))
    rw [correctableIndices, Finset.mem_filter, Finset.mem_range] at hs
    apply BitVec.eq_of_toNat_eq
    rw [sentinel_toNat, romContents]
    by_contra hc
    exact hs ⟨s.isLt, bne_iff_ne.mpr hc⟩

end Sys2Proof.Laws
end

