-- ==== Sys2Proof/Laws/Step.lean ====
section
/-!
SUPPORT. Step: what one step can do.
-/

namespace Sys2Proof.Machine

/-- A step with nothing pending changes nothing, and any other evaluates the first transaction. -/
theorem step_cases {s t : State} (h : step s = .next t) :
    (s.pending = [] ∧ t = s) ∨
    (∃ x rest, s.pending = x :: rest ∧ exec (decode x) (s.setPending rest) = .next t) := by
  unfold step at h
  split at h
  · next hp => exact .inl ⟨hp, (Host.Outcome.next.inj h).symm⟩
  · next x rest hp => exact .inr ⟨x, rest, hp, h⟩

/-- No operation writes the ROM (R36). -/
theorem exec_rom {i : Instr} {s t : State} (h : exec i s = .next t) : t.rom = s.rom := by
  obtain ⟨_, -, rfl⟩ | ⟨_, -, rfl⟩ | ⟨_, -, rfl⟩ | ⟨_, _, _, -, rfl⟩ | ⟨_, -, rfl⟩ | ⟨_, -, rfl⟩ :=
    exec_next_cases h <;> rfl

/-- No operation touches the host's list of transactions (R100). -/
theorem exec_pending {i : Instr} {s t : State} (h : exec i s = .next t) :
    t.pending = s.pending := by
  obtain ⟨_, -, rfl⟩ | ⟨_, -, rfl⟩ | ⟨_, -, rfl⟩ | ⟨_, _, _, -, rfl⟩ | ⟨_, -, rfl⟩ | ⟨_, -, rfl⟩ :=
    exec_next_cases h <;> rfl

/-- Every operation keeps the canonical form of the ROM listing. -/
theorem exec_keeps_memory_wf {i : Instr} {s t : State} (h : exec i s = .next t)
    (hw : Memory.wf s.rom = true) : Memory.wf t.rom = true := by
  rw [exec_rom h]
  exact hw

end Sys2Proof.Machine
end

