-- ==== Sys2Proof/Tests/Slice0.lean ====
section
/-!
SUPPORT. Slice0: small tests of single evaluations, and a witness for the hypotheses of each statement. Every
expected value is the spec's own (95_test_vectors.md unless a rule is named).
-/

-- One declaration at a time: a thread that waits for a kernel evaluation still holds its stack.
set_option Elab.async false

namespace Sys2Proof.Tests

open Sys2Proof.Machine

/-- The outcome is a next state of which `p` holds. -/
def nextIs (o : Host.Outcome State Fault Refusal) (p : State → Bool) : Bool :=
  match o with
  | .next t => p t
  | .fault _ => false
  | .refused _ => false

/-- The outcome is the refusal of a ROM word outside the spec. -/
def isOutsideSpec (o : Host.Outcome State Fault Refusal) : Bool :=
  match o with
  | .next _ => false
  | .fault _ => false
  | .refused r => r == .romOutsideSpec

/-- The outcome is the fault of a reserved ROM word. -/
def isReservedFault (o : Host.Outcome State Fault Refusal) : Bool :=
  match o with
  | .next _ => false
  | .fault f => f == .romReservedEntry
  | .refused _ => false

/-- Reset with transactions pending. -/
def withPending (ts : List Transaction) : State := State.reset.setPending ts

/-- Reset with a ROM that lists one entry, which no hardware of the spec has. -/
def withRomEntry (a : Nat) (x : LutWord) : State := { State.reset with rom := [(a, x)] }

/-! ## Well-formedness: each check refuses an ill-formed term -/

theorem test_wellFormed_refuses_wide_message : Instr.wellFormed (.encode 0x1273) = false := by decide
theorem test_wellFormed_takes_top_message : Instr.wellFormed (.encode 0xFFF) = true := by decide
theorem test_wellFormed_refuses_wide_synRx : Instr.wellFormed (.syndrome 0x1000000) = false := by decide
theorem test_wellFormed_refuses_wide_index : Instr.wellFormed (.lookup 0x1000) = false := by decide
theorem test_wellFormed_refuses_wide_corE : Instr.wellFormed (.correct 0#1 0x1000000 0) = false := by decide
theorem test_wellFormed_refuses_wide_corRx : Instr.wellFormed (.correct 0#1 0 0x1000000) = false := by decide
theorem test_wellFormed_refuses_wide_extCw : Instr.wellFormed (.extract 0x1000000) = false := by decide
theorem test_wellFormed_refuses_wide_rxIn : Instr.wellFormed (.ecc 0x1000000) = false := by decide

/-! ## Decode: each operation's input vector written out from 30_encoding.md rule R49, high bit first -/

/-- `mmmmmmmmmmmm` = 0x273. -/
theorem test_decode_encode : decode ⟨.golayEncoder, 0b0010_0111_0011⟩ = .encode 0x273 := by decide

/-- `pppppppppppp mmmmmmmmmmmm` = 0x2DE, 0x2F7. -/
theorem test_decode_syndrome :
    decode ⟨.syndromeCalculator, 0b0010_1101_1110_0010_1111_0111⟩ = .syndrome 0x2DE2F7 := by decide

/-- `ssssssssssss` = 0x55E. -/
theorem test_decode_lookup : decode ⟨.syndromeLookupTable, 0b0101_0101_1110⟩ = .lookup 0x55E := by decide

/-- `u`, then 24 `e`, 12 `p` and 12 `m`: u = 1, e = 0x000005, p = 0x123, m = 0x456. -/
theorem test_decode_correct :
    decode ⟨.errorCorrector,
      0b1_0000_0000_0000_0000_0000_0101_0001_0010_0011_0100_0101_0110⟩ =
      .correct 1#1 0x000005 0x123456 := by decide

/-- Program P5 line 9: the vector 0x040000175BB9E. -/
theorem test_decode_correct_program :
    decode ⟨.errorCorrector, 0x040000175BB9E⟩ = .correct 0#1 0x400001 0x75BB9E := by decide

/-- `pppppppppppp mmmmmmmmmmmm` = 0x2CE, 0x273. -/
theorem test_decode_extract :
    decode ⟨.messageExtractor, 0b0010_1100_1110_0010_0111_0011⟩ = .extract 0x2CE273 := by decide

/-- `pppppppppppp mmmmmmmmmmmm` = 0x000, 0x01F. -/
theorem test_decode_ecc :
    decode ⟨.decodeChannel, 0b0000_0000_0000_0000_0001_1111⟩ = .ecc 0x00001F := by decide

/-- R10: a vector wider than the port is masked. -/
theorem test_decode_masks : decode ⟨.golayEncoder, 0x1273⟩ = .encode 0x273 := by decide

/-- Program P2 line 6: CORRECT's vector. -/
theorem test_encode_correct :
    encode (.correct 1#1 0x000000 0x647555) = ⟨.errorCorrector, 0x1000000647555⟩ := by decide

theorem test_tableWord_of_12_bits : decodeTableWord 12 0x273 = some (.encode 0x273) := by decide
theorem test_tableWord_of_24_bits : decodeTableWord 24 0x2DE2F7 = some (.ecc 0x2DE2F7) := by decide
theorem test_tableWord_of_56_bits :
    decodeTableWord 56 0x1000000647555 = some (.correct 1#1 0 0x647555) := by decide

/-- No input vector has 32 bits: refused by name. -/
theorem test_vector_of_no_port :
    (match decodeVector 32 0 with | .error e => e == .noPortOfWidth 32 | .ok _ => false) = true := by
  decide

/-! ## The operations -/

theorem test_encode_worked_example :
    nextIs (exec (.encode 0x273) State.reset) (fun t => t.cwOut == 0x2CE273#24) = true := by
  decide +kernel

/-- The carrier 0x1273 is masked to 0x273 (R10). -/
theorem test_encode_masks :
    nextIs (exec (.encode 0x1273) State.reset)
      (fun t => t.msgIn == 0x273#12 && t.cwOut == 0x2CE273#24) = true := by
  decide +kernel

theorem test_syndrome_worked_example :
    nextIs (exec (.syndrome 0x2DE2F7) State.reset) (fun t => t.syndrome.synS == 0x55E#12) = true := by
  decide +kernel

theorem test_syndrome_arbitrary :
    nextIs (exec (.syndrome 0x123456) State.reset) (fun t => t.syndrome.synS == 0xDC0#12) = true := by
  decide +kernel

theorem test_lookup_worked_example :
    nextIs (exec (.lookup 0x55E) State.reset)
      (fun t => t.lookup.lutU == 0#1 && t.lookup.lutE == 0x010084#24) = true := by
  decide +kernel

theorem test_lookup_lowest_uncorrectable :
    nextIs (exec (.lookup 0x00F) State.reset)
      (fun t => t.lookup.lutU == 1#1 && t.lookup.lutE == 0#24) = true := by
  decide +kernel

/-- Reserved, weight(E) = 4 with U = 0: applied unchecked (R69). -/
theorem test_correct_reserved_weight :
    nextIs (exec (.correct 0#1 0x00000F 0x123456) State.reset)
      (fun t => t.corrector.corCw == 0x123459#24 && t.corrector.corOk == 1#1 &&
        t.corrector.corStatus == 0b01#2) = true := by
  decide +kernel

/-- Reserved, U = 1 with E ≠ 0: E ignored (R69). -/
theorem test_correct_reserved_flag :
    nextIs (exec (.correct 1#1 0x000005 0x123456) State.reset)
      (fun t => t.corrector.corCw == 0x123456#24 && t.corrector.corOk == 0#1 &&
        t.corrector.corStatus == 0b10#2) = true := by
  decide +kernel

theorem test_extract_ignores_parity :
    nextIs (exec (.extract 0x2CE273) State.reset) (fun t => t.extractor.extMsg == 0x273#12) = true := by
  decide +kernel

/-- A non-codeword is not validated (R71). -/
theorem test_extract_non_codeword :
    nextIs (exec (.extract 0x00001F) State.reset) (fun t => t.extractor.extMsg == 0x01F#12) = true := by
  decide +kernel

/-- Five errors on codeword 0, miscorrected (R79). -/
theorem test_ecc_miscorrects_five_errors :
    nextIs (exec (.ecc 0x00001F) State.reset)
      (fun t => t.channel.syndromeOut == 0xCCE#12 && t.channel.correctedOut == 0x24021F#24 &&
        t.channel.okOut == 1#1 && t.channel.statusOut == 0b01#2 && t.channel.msgOut == 0x21F#12) =
      true := by
  decide +kernel

/-- Four errors, detected (R77). -/
theorem test_ecc_detects_four_errors :
    nextIs (exec (.ecc 0x2CE27C) State.reset)
      (fun t => t.channel.syndromeOut == 0x77A#12 && t.channel.correctedOut == 0x2CE27C#24 &&
        t.channel.okOut == 0#1 && t.channel.statusOut == 0b10#2 && t.channel.msgOut == 0x27C#12) =
      true := by
  decide +kernel

/-! ## Steps, and a ROM that is not the hardware's -/

theorem test_step_takes_the_first_transaction :
    nextIs (step (withPending [⟨.messageExtractor, 0x7FF800⟩, ⟨.golayEncoder, 1⟩]))
      (fun t => t.extractor.extMsg == 0x800#12 && t.pending == [⟨.golayEncoder, 1⟩]) = true := by
  decide +kernel

theorem test_presented_word_runs_first :
    nextIs (step (State.reset.withFetchWord 24 0x123456))
      (fun t => t.channel.correctedOut == 0x127C57#24 && t.pending == []) = true := by
  decide +kernel

/-- X1: U = 1 with E ≠ 0 faults, at the index read and nowhere else. -/
theorem test_reserved_entry_faults :
    isReservedFault (exec (.lookup 0x001) (withRomEntry 0x001 0x1000001#25)) = true := by
  decide +kernel

theorem test_reserved_entry_elsewhere :
    nextIs (exec (.lookup 0x002) (withRomEntry 0x001 0x1000001#25))
      (fun t => t.lookup.lutE == 0x002000#24) = true := by
  decide +kernel

/-- R97: a legal word that is not the hardware's is no value. -/
theorem test_foreign_entry_is_refused :
    isOutsideSpec (exec (.ecc 0x001000) (withRomEntry 0x001 0x0000001#25)) = true := by
  decide +kernel

theorem test_memory_form_refuses_default_entry :
    Memory.wf [(0x001, 0x0001000#25)] = false := by decide +kernel
theorem test_memory_form_refuses_falling_indices :
    Memory.wf [(0x002, 0#25), (0x001, 0#25)] = false := by decide +kernel
theorem test_memory_form_refuses_outside_index :
    Memory.wf [(0x1000, 0x1000000#25)] = false := by decide +kernel

/-! ## Witnesses: a concrete state and operands that meet the hypotheses of each statement -/

theorem witness_intact_rom : RomIntact State.reset := rfl

/-- For the statements about a state whose outputs follow its inputs, at reset and after an evaluation. -/
theorem witness_ports_consistent : PortsConsistent State.reset := by decide +kernel

theorem witness_ports_consistent_step :
    ∃ s t, PortsConsistent s ∧ step s = .next t ∧ t.encoder.encCw = 0x7FF800#24 :=
  ⟨withPending [⟨.golayEncoder, 0x800⟩], _, by decide +kernel, rfl, by decide +kernel⟩

/-- EveryErrorUpToWeightThreeIsCorrected, clause e = 0. -/
theorem witness_error_of_weight_zero :
    RomIntact State.reset ∧ popcount (0#24) ≤ 3 := by decide

/-- EveryErrorUpToWeightThreeIsCorrected, clause e ≠ 0, at the bound. -/
theorem witness_error_of_weight_three :
    RomIntact State.reset ∧ popcount (0x010084#24) = 3 ∧ (0x010084#24) ≠ 0#24 := by decide

theorem witness_error_of_weight_four :
    RomIntact State.reset ∧ popcount (0x810081#24) = 4 := by decide

theorem witness_errors_of_weight_five_and_seven :
    RomIntact State.reset ∧ popcount (0x00001F#24) = 5 ∧ popcount (0x00007F#24) = 7 := by decide

/-- ErrorsOfWeightSixAndEightAreDetectedOrMiscorrected: at weight 6 an error that is detected, at weight 8
one that is, and one that is a codeword and goes by as CLEAN (the ECC vectors of 95_test_vectors.md). -/
theorem witness_errors_of_weight_six_and_eight :
    popcount (0x00003F#24) = 6 ∧
    nextIs (exec (.ecc 0x00003F) State.reset) (fun t => t.channel.okOut == 0#1) = true ∧
    popcount (0x0000FF#24) = 8 ∧
    nextIs (exec (.ecc 0x0000FF) State.reset) (fun t => t.channel.okOut == 0#1) = true ∧
    popcount (0xA3B001#24) = 8 ∧ 0xA3B001#24 = encodeWord 0x001#12 ∧
    nextIs (exec (.ecc 0xA3B001) State.reset)
      (fun t => t.channel.okOut == 1#1 && t.channel.statusOut == 0b00#2) = true := by
  decide +kernel

/-- The same statement, ok_out = 1 at weight 6: the octad 0xA3B001 (R54) less two of its bits. -/
theorem witness_miscorrected_weight_six :
    popcount (0x23B000#24) = 6 ∧
    nextIs (exec (.ecc 0x23B000) State.reset)
      (fun t => t.channel.correctedOut == 0xA3B001#24 && t.channel.statusOut == 0b01#2) = true := by
  decide +kernel

/-- The same statement, ok_out = 1 at weight 8 without CLEAN: the octad with one bit moved. -/
theorem witness_miscorrected_weight_eight :
    popcount (0xA3B002#24) = 8 ∧
    nextIs (exec (.ecc 0xA3B002) State.reset)
      (fun t => t.channel.correctedOut == 0xA3B001#24 && t.channel.statusOut == 0b01#2) = true := by
  decide +kernel

/-- The U = 0 and the U = 1 clauses about ROM entries and cosets. -/
theorem witness_entries_of_both_kinds :
    entryU (romContents 0xFFF#12) = 0#1 ∧ entryU (romContents 0x00F#12) = 1#1 := by decide +kernel

/-- RomHoldsTheLowWeightPattern: an index with a pattern, and one whose premise is that there is none. -/
theorem witness_index_with_pattern :
    popcount (0x010084#24) ≤ 3 ∧ syndromeOf 0x010084#24 = 0x55E#12 := by decide +kernel

theorem witness_index_without_pattern (e : Word24) (h : popcount e ≤ 3) : syndromeOf e ≠ 0x00F#12 := by
  intro hs
  have h1 := Laws.romContents_syndromeOf h
  rw [hs] at h1
  have h2 : entryU (romContents 0x00F#12) = 1#1 := by decide +kernel
  rw [h1, entryU_joinEntry] at h2
  exact absurd h2 (by decide)

/-- RomEntryCountsAndUniqueness: a word of a correctable coset that is not its leader. -/
theorem witness_word_beside_its_leader :
    entryU (romContents 0x001#12) = 0#1 ∧ syndromeOf (0xA3A001#24) = 0x001#12 ∧
      (0xA3A001#24) ≠ entryE (romContents 0x001#12) := by decide +kernel

/-- ConstructionLoopGivesTheRom: a list of the patterns, each once. -/
theorem witness_list_of_patterns :
    (∀ e : Word24, e ∈ errorPatterns ↔ popcount e ≤ 3) ∧ errorPatterns.Nodup :=
  ⟨fun _ => Laws.mem_errorPatterns, Laws.nodup_errorPatterns⟩

/-- OkMeansTheOnlyCodewordWithinThree and FailureReturnsTheReceivedWord, both clauses. -/
theorem witness_ok_and_failure :
    nextIs (exec (.ecc 0x123456) State.reset) (fun t => t.channel.okOut == 1#1) = true ∧
    nextIs (exec (.ecc 0x00000F) State.reset) (fun t => t.channel.okOut == 0#1) = true := by
  decide +kernel

/-- CleanExactlyAtZeroSyndrome, both sides: a codeword, and a word with one error. -/
theorem witness_clean_and_corrected :
    nextIs (exec (.ecc 0x2CE273) State.reset)
      (fun t => t.channel.syndromeOut == 0#12 && t.channel.statusOut == 0b00#2) = true ∧
    nextIs (exec (.ecc 0x2CE272) State.reset)
      (fun t => t.channel.syndromeOut == 0xA3B#12 && t.channel.statusOut == 0b01#2) = true := by
  decide +kernel

/-- SingleErrorRomEntries, where the m-part and the p-part meet, and the last bit. -/
theorem witness_single_errors :
    syndromeOf (1#24 <<< 11) = 0x7FF#12 ∧ syndromeOf (1#24 <<< 12) = 0x001#12 ∧
      syndromeOf (1#24 <<< 23) = 0x800#12 := by decide +kernel

/-- WiredMasksFollowTheRuleOfB and ParityCheckAnnihilatesTheGenerator, the last row and column. -/
theorem witness_last_row_of_B :
    (rowmaskB 11).getLsbD 11 = false ∧ (rowmaskB 11).getLsbD 10 = true ∧
      (rowmaskB 10).getLsbD 11 = true ∧ gRow 11 = 0x7FF800#24 ∧ hRow 11 = 0x8007FF#24 := by
  decide +kernel

/-- A codeword within distance 3 of a received word. -/
theorem witness_codeword_within_three :
    popcount (0x2DE2F7#24 ^^^ encodeWord 0x273#12) = 3 := by decide +kernel

/-- CorrectAppliesThePattern, the clause e mod 2^24 = 0 at its boundary: the first wide carrier. -/
theorem witness_correct_wide_zero_pattern :
    nextIs (exec (.correct 0#1 0x1000000 0xFFFFFF) State.reset)
      (fun t => t.corrector.corCw == 0xFFFFFF#24 && t.corrector.corStatus == 0b00#2) = true := by
  decide +kernel

/-- CorrectAppliesThePattern, the clause e mod 2^24 ≠ 0 at its boundary. -/
theorem witness_correct_smallest_pattern :
    nextIs (exec (.correct 0#1 0x000001 0x2CE272) State.reset)
      (fun t => t.corrector.corCw == 0x2CE273#24 && t.corrector.corStatus == 0b01#2) = true := by
  decide +kernel

/-- ExtractReturnsTheMessagePart: two words that agree in their low 12 bits alone. -/
theorem witness_words_with_one_message : 0xABC273 % 2 ^ 12 = 0x2CE273 % 2 ^ 12 := by decide

theorem witness_distinct_messages : (0#12) ≠ 1#12 ∧ (1#12) ≠ 0#12 := by decide

/-- RepeatedEvaluationChangesNothing and EveryOperationKeepsItsFrame. -/
theorem witness_operation_completes : ∃ t, exec (.ecc 0x2DE2F7) State.reset = .next t := ⟨_, rfl⟩

/-- EvaluationsOnDifferentUnitsCommute. -/
theorem witness_two_units :
    ∃ a b, Instr.coreUnit (.encode 0x273) ≠ Instr.coreUnit (.ecc 0x00000F) ∧
      exec (.encode 0x273) State.reset = .next a ∧ exec (.ecc 0x00000F) State.reset = .next b :=
  ⟨_, _, by decide, rfl, rfl⟩

/-- NoStepWritesTheRom, in a state whose ROM lists an entry and is in canonical form. -/
theorem witness_step_with_listed_rom :
    ∃ s t, s.rom ≠ [] ∧ Memory.wf s.rom = true ∧ step s = .next t :=
  ⟨withRomEntry 0xFFF 0x0000001#25, _, by decide, by decide +kernel, rfl⟩

/-- ForeignRomEntriesAreNeverValues: a reserved and a foreign word, for LOOKUP at the last index. -/
theorem witness_foreign_entries_lookup :
    romListed (withRomEntry 0xFFF 0x1000001#25).rom (BitVec.ofNat 12 0xFFF).toNat = some 0x1000001#25 ∧
    (0x1000001#25) ≠ romContents (BitVec.ofNat 12 0xFFF) ∧ isReservedEntry 0x1000001#25 = true ∧
    romListed (withRomEntry 0xFFF 0#25).rom (BitVec.ofNat 12 0xFFF).toNat = some 0#25 ∧
    (0#25) ≠ romContents (BitVec.ofNat 12 0xFFF) ∧ isReservedEntry 0#25 = false := by
  decide +kernel

/-- The same for ECC, whose index is the syndrome 0x001 of 0x001000. U = 0 with weight 4 is reserved. -/
theorem witness_foreign_entries_ecc :
    romListed (withRomEntry 0x001 0x000000F#25).rom (syndromeOf (BitVec.ofNat 24 0x001000)).toNat =
      some 0x000000F#25 ∧
    (0x000000F#25) ≠ romContents (syndromeOf (BitVec.ofNat 24 0x001000)) ∧
    isReservedEntry 0x000000F#25 = true ∧
    romListed (withRomEntry 0x001 0x1000000#25).rom (syndromeOf (BitVec.ofNat 24 0x001000)).toNat =
      some 0x1000000#25 ∧
    (0x1000000#25) ≠ romContents (syndromeOf (BitVec.ofNat 24 0x001000)) ∧
    isReservedEntry 0x1000000#25 = false := by
  decide +kernel

/-- StepEvaluatesTheDecodedTransaction, both clauses. -/
theorem witness_pending :
    State.reset.pending = [] ∧
    (withPending [⟨.errorCorrector, 0x1FFFFFFFFFFFF⟩]).pending =
      ⟨.errorCorrector, 0x1FFFFFFFFFFFF⟩ :: [] := by decide

/-- PresentedWordIsEvaluatedNext, for each width that has a unit. -/
theorem witness_presented_words :
    decodeTableWord 16 0x800 = some (.encode 0x800) ∧
    decodeTableWord 24 0xFFFFFF = some (.ecc 0xFFFFFF) ∧
    decodeTableWord 49 0x1FFFFFFFFFFFF = some (.correct 1#1 0xFFFFFF 0xFFFFFF) := by decide

/-- DecodeUndoesEncode, at the top of every operand's range. -/
theorem witness_well_formed :
    Instr.wellFormed (.encode 0xFFF) = true ∧ Instr.wellFormed (.syndrome 0xFFFFFF) = true ∧
    Instr.wellFormed (.lookup 0xFFF) = true ∧
    Instr.wellFormed (.correct 1#1 0xFFFFFF 0xFFFFFF) = true ∧
    Instr.wellFormed (.extract 0xFFFFFF) = true ∧ Instr.wellFormed (.ecc 0xFFFFFF) = true := by
  decide

end Sys2Proof.Tests
end

section
/-!
PROOFS. The scope (00_scope.md): the masking policy of R10, and R11's claim that an operation is a pure and total function
of its inputs. R11 is assembled from three facts about one evaluation: it completes, it keeps its frame, and the
ports it drives do not depend on the state it started from.
-/

namespace Sys2Proof.Machine

/-- The two states hold the same values on the ports of unit `u`. -/
def PortsAgreeOn (u : CoreUnit) (t t' : State) : Prop :=
  (u = .golayEncoder → t.encoder = t'.encoder) ∧
  (u = .syndromeCalculator → t.syndrome = t'.syndrome) ∧
  (u = .syndromeLookupTable → t.lookup = t'.lookup) ∧
  (u = .errorCorrector → t.corrector = t'.corrector) ∧
  (u = .messageExtractor → t.extractor = t'.extractor) ∧
  (u = .decodeChannel → t.channel = t'.channel)

theorem setEncoder_frame (s : State) (p : EncoderPorts) :
    FrameOf .golayEncoder s (s.setEncoder p) := by simp [FrameOf]

theorem setSyndrome_frame (s : State) (p : SyndromePorts) :
    FrameOf .syndromeCalculator s (s.setSyndrome p) := by simp [FrameOf]

theorem setLookup_frame (s : State) (p : LookupPorts) :
    FrameOf .syndromeLookupTable s (s.setLookup p) := by simp [FrameOf]

theorem setCorrector_frame (s : State) (p : CorrectorPorts) :
    FrameOf .errorCorrector s (s.setCorrector p) := by simp [FrameOf]

theorem setExtractor_frame (s : State) (p : ExtractorPorts) :
    FrameOf .messageExtractor s (s.setExtractor p) := by simp [FrameOf]

theorem setChannel_frame (s : State) (p : ChannelPorts) :
    FrameOf .decodeChannel s (s.setChannel p) := by simp [FrameOf]

/-- The state in which operation `i` ends where it completes: its own unit's ports hold what the rule of the
operation gives, with the entry of R59 for each read of the ROM. -/
def execResult (i : Instr) (s : State) : State :=
  match i with
  | .encode n => s.setEncoder (encoderPorts (trunc12 n))
  | .syndrome n => s.setSyndrome (syndromePorts (trunc24 n))
  | .lookup n => s.setLookup (lookupPorts (trunc12 n) (romContents (trunc12 n)))
  | .correct u e r => s.setCorrector (correctorPorts (trunc24 r) u (trunc24 e))
  | .extract n => s.setExtractor (extractorPorts (trunc24 n))
  | .ecc n => s.setChannel (channelPorts (trunc24 n) (romContents (syndromeOf (trunc24 n))))

/-- On any ROM, an operation that completes ends in `execResult`. -/
theorem eq_execResult_of_exec {i : Instr} {s t : State} (h : exec i s = .next t) :
    t = execResult i s := by
  obtain ⟨n, rfl, rfl⟩ | ⟨n, rfl, rfl⟩ | ⟨n, rfl, rfl⟩ | ⟨u, e, r, rfl, rfl⟩ | ⟨n, rfl, rfl⟩ |
    ⟨n, rfl, rfl⟩ := exec_next_cases h <;> rfl

/-- On the hardware's ROM every operation completes (R83): only LOOKUP and ECC read it, and it answers each read. -/
theorem exec_intact (i : Instr) {s : State} (hs : RomIntact s) :
    exec i s = .next (execResult i s) := by
  cases i with
  | encode n => exact exec_encode n s
  | syndrome n => exact exec_syndrome n s
  | lookup n => exact exec_lookup_intact n hs
  | correct u e r => exact exec_correct u e r s
  | extract n => exact exec_extract n s
  | ecc n => exact exec_ecc_intact n hs

/-- An operation changes the ports of its own unit at most (R42). -/
theorem execResult_frame (i : Instr) (s : State) : FrameOf i.coreUnit s (execResult i s) := by
  cases i with
  | encode n => exact setEncoder_frame s _
  | syndrome n => exact setSyndrome_frame s _
  | lookup n => exact setLookup_frame s _
  | correct u e r => exact setCorrector_frame s _
  | extract n => exact setExtractor_frame s _
  | ecc n => exact setChannel_frame s _

/-- What an operation leaves on its unit's ports does not depend on the state it started from. -/
theorem execResult_portsAgree (i : Instr) (s s' : State) :
    PortsAgreeOn i.coreUnit (execResult i s) (execResult i s') := by
  cases i <;> simp [PortsAgreeOn, Instr.coreUnit, execResult]

/-- Settles O27: each operation uses a word operand only through its port's mask, which does not see the bits above
the port (R10). -/
theorem wideOperandsAreMasked : Obligations.WideOperandsAreMasked := by
  intro n k u s
  refine ⟨?_, ?_, ?_, ?_, ?_, ?_⟩
  · rw [exec_encode, exec_encode, trunc12_mod]
  · rw [exec_syndrome, exec_syndrome, trunc24_mod]
  · rw [exec_lookup, exec_lookup, trunc12_mod]
  · rw [exec_correct, exec_correct, trunc24_mod, trunc24_mod]
  · rw [exec_extract, exec_extract, trunc24_mod]
  · rw [exec_ecc, exec_ecc, trunc24_mod]

/-- Settles O28: both runs complete, in `execResult`, which keeps the frame and drives the same ports from either
state. -/
theorem outputsDependOnInputsAlone : Obligations.OutputsDependOnInputsAlone := by
  intro i s s' hs hs'
  exact ⟨_, _, exec_intact i hs, exec_intact i hs', execResult_frame i s,
    execResult_portsAgree i s s'⟩

end Sys2Proof.Machine
end

section
/-!
PROOFS. GF(2) on words made of two parts and on unit vectors (R7): the rows of G and H are
such words (10_state.md R20, R21).
-/

namespace Sys2Proof.Machine

theorem dot_comm {w : Nat} (a b : BitVec w) : dot a b = dot b a := by
  rw [dot, dot, BitVec.and_comm]

@[simp] theorem dot_self {w : Nat} (a : BitVec w) : dot a a = parity a := by
  rw [dot, BitVec.and_self]

/-- The weight of a concatenation is the sum of the weights of its parts. -/
theorem popcount_append {m n : Nat} (a : BitVec m) (b : BitVec n) :
    popcount (a ++ b) = popcount a + popcount b := by
  have hr : List.range (m + n) = List.range n ++ (List.range m).map (n + ·) := by
    rw [Nat.add_comm, List.range_add]
  rw [Nat.add_comm (popcount a), popcount_eq_countP, hr, List.countP_append, List.countP_map,
    popcount_eq_countP, popcount_eq_countP]
  congr 1
  · exact List.countP_congr fun i hi => by simp [BitVec.getLsbD_append, List.mem_range.mp hi]
  · exact List.countP_congr fun i _ => by simp [BitVec.getLsbD_append]

/-- Parity goes part by part. -/
theorem parity_append {m n : Nat} (a : BitVec m) (b : BitVec n) :
    parity (a ++ b) = (parity a ^^ parity b) := by
  rw [parity, popcount_append, parity, parity]
  rcases Nat.mod_two_eq_zero_or_one (popcount a) with ha | ha <;>
    rcases Nat.mod_two_eq_zero_or_one (popcount b) with hb | hb <;>
      simp [Nat.add_mod, ha, hb]

/-- The dot product goes part by part. -/
theorem dot_append {m n : Nat} (a c : BitVec m) (b d : BitVec n) :
    dot (a ++ b) (c ++ d) = (dot a c ^^ dot b d) := by
  rw [dot, BitVec.and_append, parity_append, dot, dot]

/-- A unit vector has weight 1. -/
theorem popcount_twoPow {w i : Nat} (hi : i < w) : popcount (BitVec.twoPow w i) = 1 := by
  rw [popcount_eq_countP, ← List.count_eq_one_of_mem List.nodup_range (List.mem_range.mpr hi)]
  exact List.countP_congr fun j _ => by simp [hi, eq_comm (a := i)]

/-- The dot product with a unit vector reads one bit. -/
theorem dot_twoPow {w i : Nat} (v : BitVec w) (hi : i < w) :
    dot v (BitVec.twoPow w i) = v.getLsbD i := by
  rw [dot, BitVec.and_twoPow]
  cases v.getLsbD i <;> simp [parity, popcount_twoPow hi]

end Sys2Proof.Machine
end

section
/-!
PROOFS. The hardwired matrices (10_state.md section 3): the masks of B and its rule (R17, R18), the properties of B
(R19), and G and H (R20, R21). What is said of B is read off its 144 entries; what is said of G and H follows from the
two halves of their rows, a mask of B beside a unit vector.
-/

namespace Sys2Proof.Machine

/-- Both sets of masks hold B by its defining rule: rows as rows, columns as columns (R8, R18). -/
theorem getLsbD_rowmaskB : ∀ i < 12, ∀ j < 12, (rowmaskB i).getLsbD j = bRule i j := by decide

theorem getLsbD_colmaskB : ∀ j < 12, ∀ i < 12, (colmaskB j).getLsbD i = bRule i j := by decide

/-- The row masks and the column masks wire in one matrix. -/
theorem getLsbD_colmaskB_eq_rowmaskB {i j : Nat} (hi : i < 12) (hj : j < 12) :
    (colmaskB j).getLsbD i = (rowmaskB i).getLsbD j := by
  rw [getLsbD_colmaskB j hj i hi, getLsbD_rowmaskB i hi j hj]

/-- The model's natural-number residue of `j - i` is the integer one of R17. -/
theorem intCast_residue {i j : Nat} (hi : i < 11) :
    (((j + 11 - i) % 11 : Nat) : Int) = ((j : Int) - i) % 11 := by
  omega

/-- `bRule` is R17's rule, with the residue taken in the integers. -/
theorem bRule_eq_true_iff {i j : Nat} (hi : i < 12) (hj : j < 12) :
    bRule i j = true ↔
      (i < 11 ∧ j < 11 ∧ (i = j ∨ ((j : Int) - i) % 11 ∈ ([1, 3, 4, 5, 9] : List Int))) ∨
      (i < 11 ∧ j = 11) ∨ (i = 11 ∧ j < 11) := by
  by_cases h : i < 11 ∧ j < 11
  · obtain ⟨hi', hj'⟩ := h
    rw [← intCast_residue hi']
    simp only [bRule, hi', hj', Nat.ne_of_lt hi', Nat.ne_of_lt hj', and_self, if_true, true_and,
      and_false, false_and, or_false, Bool.or_eq_true, beq_iff_eq, List.contains_iff_mem,
      List.mem_cons, List.not_mem_nil]
    norm_cast
  · rw [bRule, if_neg h]
    simp only [Bool.not_eq_true', Bool.and_eq_false_iff, beq_eq_false_iff_ne]
    omega

theorem popcount_rowmaskB : ∀ i < 12, popcount (rowmaskB i) = if i = 11 then 11 else 7 := by decide

theorem popcount_colmaskB : ∀ j < 12, popcount (colmaskB j) = if j = 11 then 11 else 7 := by decide

/-- Every row of B has odd weight. -/
theorem parity_rowmaskB {i : Nat} (hi : i < 12) : parity (rowmaskB i) = true := by
  rw [parity, popcount_rowmaskB i hi]
  split <;> rfl

/-- Any two distinct rows of B share an even number of ones. -/
theorem dot_rowmaskB_of_ne : ∀ i < 12, ∀ k < 12, i ≠ k → dot (rowmaskB i) (rowmaskB k) = false := by
  decide

/-- The rows of G and H, each a mask of B beside a unit vector (R20, R21). -/
theorem gRow_eq (i : Nat) : gRow i = rowmaskB i ++ BitVec.twoPow 12 i := rfl

theorem hRow_eq (k : Nat) : hRow k = BitVec.twoPow 12 k ++ colmaskB k := rfl

/-- A row of G meets a row of H in `B[i][k]` twice: once in its own mask of B, once in that of H. -/
theorem dot_gRow_hRow {i k : Nat} (hi : i < 12) (hk : k < 12) : dot (gRow i) (hRow k) = false := by
  calc dot (gRow i) (hRow k)
      = (dot (rowmaskB i) (BitVec.twoPow 12 k) ^^ dot (BitVec.twoPow 12 i) (colmaskB k)) := by
        rw [gRow_eq, hRow_eq, dot_append]
    _ = ((rowmaskB i).getLsbD k ^^ (colmaskB k).getLsbD i) := by
        rw [dot_comm (BitVec.twoPow 12 i), dot_twoPow _ hk, dot_twoPow _ hi]
    _ = false := by
        rw [getLsbD_colmaskB_eq_rowmaskB hi hk, Bool.xor_self]

/-- The sum over GF(2) of those among the first `n` rows of G that `m` selects. -/
def gRowSum (m : Msg) (n : Nat) : Word24 :=
  (List.range n).foldl (fun acc i => if m.getLsbD i then acc ^^^ gRow i else acc) 0#24

theorem getLsbD_gRowSum_succ (m : Msg) (n c : Nat) :
    (gRowSum m (n + 1)).getLsbD c =
      ((gRowSum m n).getLsbD c ^^ (m.getLsbD n && (gRow n).getLsbD c)) := by
  have hs : gRowSum m (n + 1) = if m.getLsbD n then gRowSum m n ^^^ gRow n else gRowSum m n := by
    rw [gRowSum, List.range_succ, List.foldl_append]
    rfl
  rw [hs]
  cases m.getLsbD n <;> simp

/-- The I part of row i of G is the unit vector i (R20). -/
theorem getLsbD_gRow_of_lt {i c : Nat} (hc : c < 12) : (gRow i).getLsbD c = decide (i = c) := by
  rw [gRow_eq, BitVec.getLsbD_append, if_pos hc, BitVec.getLsbD_twoPow]
  have hi (h : i = c) : i < 12 := h ▸ hc
  simpa using hi

/-- The I part of a sum of rows of G reads back which rows were selected. -/
theorem getLsbD_gRowSum (m : Msg) (n : Nat) {c : Nat} (hc : c < 12) :
    (gRowSum m n).getLsbD c = (decide (c < n) && m.getLsbD c) := by
  induction n with
  | zero => simp [gRowSum]
  | succ n ih =>
    rw [getLsbD_gRowSum_succ, ih, getLsbD_gRow_of_lt hc]
    rcases Nat.lt_trichotomy c n with h | rfl | h
    · simp [h, Nat.lt_succ_of_lt h, Nat.ne_of_gt h]
    · simp
    · simp [Nat.not_lt_of_gt h, Nat.not_lt.mpr (Nat.succ_le_of_lt h), Nat.ne_of_lt h]

/-- The rows of G are linearly independent: their I parts are different unit vectors (R20). -/
theorem eq_zero_of_gRowSum_eq_zero {m : Msg} (h : gRowSum m 12 = 0#24) : m = 0#12 := by
  apply BitVec.eq_of_getLsbD_eq
  intro c hc
  have hb := getLsbD_gRowSum m 12 hc
  rw [h] at hb
  simpa [hc] using hb.symm

/-- Settles O43: entry by entry the masks are `bRule`, which is R17's rule, and the tables are wired in as they
stand. -/
theorem wiredMasksFollowTheRuleOfB : Obligations.WiredMasksFollowTheRuleOfB := by
  refine ⟨fun i j hi hj => ⟨?_, getLsbD_colmaskB_eq_rowmaskB hi hj⟩, rfl, rfl,
    fun i hi => ⟨popcount_rowmaskB i hi, popcount_colmaskB i hi⟩⟩
  rw [getLsbD_rowmaskB i hi j hj]
  exact bRule_eq_true_iff hi hj

/-- Settles O44: the rows of B are orthonormal by their weights and overlaps. Entry (0, 1) is not entry (1, 0), and
row 0 meets column 0 in two ones, so B · B has a 0 on its diagonal. -/
theorem inverseOfBIsItsTranspose : Obligations.InverseOfBIsItsTranspose := by
  refine ⟨⟨0, 1, by decide⟩, fun i k hi hk => ?_, ⟨0, 0, by decide⟩⟩
  by_cases h : i = k
  · subst h
    simp [parity_rowmaskB hi]
  · simp [h, dot_rowmaskB_of_ne i hi k hk h]

/-- Settles O45: the tables are what the definitions of the rows evaluate to, and the rest are the two facts above
about the halves of the rows. -/
theorem parityCheckAnnihilatesTheGenerator : Obligations.ParityCheckAnnihilatesTheGenerator :=
  ⟨rfl, rfl, fun _ _ hi hk => dot_gRow_hRow hi hk, fun _ h => eq_zero_of_gRowSum_eq_zero h⟩

end Sys2Proof.Machine
end

section
/-!
PROOFS. The memory (20_memory.md): nothing writes the ROM (R36). What is said of its form and of its reads follows from
the equality of the two listings.
-/

namespace Sys2Proof.Machine

/-- A step that evaluates nothing has the ROM of its start, and one that evaluates a transaction takes it from the
host's list and runs an operation, neither of which writes the ROM (R36). -/
theorem step_rom {s t : State} (h : step s = .next t) : t.rom = s.rom := by
  obtain ⟨-, rfl⟩ | ⟨x, rest, -, hx⟩ := step_cases h
  · rfl
  · calc t.rom = (s.setPending rest).rom := exec_rom hx
      _ = s.rom := State.setPending_rom s rest

/-- Every step keeps the canonical form of the ROM listing. -/
theorem step_keeps_memory_wf {s t : State} (h : step s = .next t)
    (hw : Memory.wf s.rom = true) : Memory.wf t.rom = true := by
  rw [step_rom h]
  exact hw

/-- Every index reads after a step as it did before (R35, R36). -/
theorem step_memRead {s t : State} (h : step s = .next t) (i : Syn) :
    memRead t.rom i = memRead s.rom i := by
  rw [step_rom h]

/-- Settles O33: a step keeps the ROM listing itself, and with it its form and what is read from it. -/
theorem noStepWritesTheRom : Obligations.NoStepWritesTheRom :=
  fun _ _ h => ⟨step_rom h, step_keeps_memory_wf h, step_memRead h⟩

end Sys2Proof.Machine
end

section
/-!
PROOFS. The encodings (30_encoding.md): a ROM entry is a pattern of low weight or the sentinel (R46), and an outcome is one
of the three rows of the STATUS2 table (R47).
-/

namespace Sys2Proof.Machine

@[simp] theorem getLsbD_joinEntry_flag (u : Bit) (e : Word24) :
    (joinEntry u e).getLsbD 24 = u.getLsbD 0 := by
  rw [joinEntry, BitVec.getLsbD_append]
  rfl

/-- What the ROM can hold at an index: the pattern of weight at most 3 with that syndrome, or the sentinel where
there is none (R59). -/
theorem romContents_cases (s : Syn) :
    (∃ e, popcount e ≤ 3 ∧ syndromeOf e = s ∧ romContents s = joinEntry 0#1 e) ∨
    ((∀ e, popcount e ≤ 3 → syndromeOf e ≠ s) ∧ romContents s = sentinel) := by
  by_cases h : ∃ e, popcount e ≤ 3 ∧ syndromeOf e = s
  · obtain ⟨e, he, rfl⟩ := h
    exact .inl ⟨e, he, rfl, Laws.romContents_syndromeOf he⟩
  · have hnone : ∀ e, popcount e ≤ 3 → syndromeOf e ≠ s := fun e he hs => h ⟨e, he, hs⟩
    refine .inr ⟨hnone, ?_⟩
    have hfind : errorPatterns.find? (fun e => syndromeOf e == s) = none :=
      List.find?_eq_none.mpr fun e he heq => hnone e (Laws.mem_errorPatterns.mp he) (eq_of_beq heq)
    rw [Laws.romContents_eq_romRule, romRule, hfind]

/-- Every entry of the ROM is legal (R46). -/
theorem romContents_legal (s : Syn) :
    ((romContents s).getLsbD 24 = false ∧ popcount (entryE (romContents s)) ≤ 3) ∨
      romContents s = sentinel := by
  obtain ⟨e, he, -, hrom⟩ | ⟨-, hrom⟩ := romContents_cases s
  · left
    rw [hrom, getLsbD_joinEntry_flag, entryE_joinEntry]
    exact ⟨rfl, he⟩
  · exact .inr hrom

/-- The zero pattern, whose syndrome is zero, stands at index 0 (R46). -/
theorem romContents_zero : romContents 0#12 = 0#25 := by
  have hpop : popcount 0#24 ≤ 3 := by simp
  have hsyn : syndromeOf 0#24 = 0#12 := vecMul_zero hRow 12
  calc romContents 0#12 = romContents (syndromeOf 0#24) := by rw [hsyn]
    _ = joinEntry 0#1 0#24 := Laws.romContents_syndromeOf hpop
    _ = 0#25 := rfl

/-- Settles O13: an intact ROM reads as R59 fixes, whose entries are legal. -/
theorem romHoldsOnlyLegalEntries : Obligations.RomHoldsOnlyLegalEntries := by
  intro st hst
  have hread (s : Syn) : memRead st.rom s = .next (romContents s) := by rw [hst, memRead_nil]
  refine ⟨fun s => ⟨romContents s, hread s, romContents_legal s⟩, ?_⟩
  rw [hread, romContents_zero]

/-- The table of STATUS2 (R47): each status stands for its values of U and E, 0b11 for none, and ok for the first
two. -/
def StatusTable (u : Bit) (e : Word24) (status : Status) (ok : Bit) : Prop :=
  (status = 0b00#2 ↔ u = 0#1 ∧ e = 0#24) ∧
  (status = 0b01#2 ↔ u = 0#1 ∧ e ≠ 0#24) ∧
  (status = 0b10#2 ↔ u = 1#1) ∧
  status ≠ 0b11#2 ∧
  (ok = 1#1 ↔ status = 0b00#2 ∨ status = 0b01#2)

theorem outcomeStatus_clean : outcomeStatus 0#1 0#24 = 0b00#2 := rfl

theorem outcomeStatus_corrected {e : Word24} (he : e ≠ 0#24) : outcomeStatus 0#1 e = 0b01#2 := by
  rw [outcomeStatus_zero, if_neg he, statusCorrected]

/-- The three rows of the table are U = 1, then U = 0 with E zero or not, in the order in which `outcomeStatus` tests
them (R67). -/
theorem statusTable_outcome (u : Bit) (e : Word24) :
    StatusTable u e (outcomeStatus u e) (outcomeOk u) := by
  obtain rfl | rfl := bit_cases u
  · by_cases he : e = 0#24
    · subst he
      simp [StatusTable, outcomeStatus_clean]
    · simp [StatusTable, outcomeStatus_corrected he, he]
  · simp [StatusTable, statusUncorrectable]

/-- Settles O37: consistent ports are those of an error corrector and of a decode channel that has one inside (R27),
and both follow the table for every input. -/
theorem outcomesFollowTheStatusTable : Obligations.OutcomesFollowTheStatusTable := by
  intro s ⟨_, _, _, hcorrector, _, hchannel⟩
  have hunit : StatusTable s.corrector.corU s.corrector.corE s.corrector.corStatus
      s.corrector.corOk := by
    rw [hcorrector]
    exact statusTable_outcome _ _
  have hnets : StatusTable s.channel.netU s.channel.netE s.channel.statusOut s.channel.okOut := by
    rw [hchannel]
    exact statusTable_outcome _ _
  exact ⟨hunit, hnets⟩

end Sys2Proof.Machine
end

section
/-!
PROOFS. The encoder (40_encoder.md section 1): the two forms of R54, one parity at a time and as a sum of rows of G.
-/

namespace Sys2Proof.Machine

/-- The parity part of row i of G holds row i of B, which column j of B meets in its bit i (R18, R20). -/
theorem getLsbD_gRow_parity {i j : Nat} (hi : i < 12) (hj : j < 12) :
    (gRow i).getLsbD (12 + j) = (colmaskB j).getLsbD i := by
  rw [gRow_eq, BitVec.getLsbD_append, if_neg (by omega), Nat.add_sub_cancel_left,
    getLsbD_colmaskB_eq_rowmaskB hi hj]

/-- Parity bit j of a sum of rows of G counts, modulo 2, the selected rows that column j of B meets. -/
theorem getLsbD_gRowSum_parity (m : Msg) {n j : Nat} (hn : n ≤ 12) (hj : j < 12) :
    (gRowSum m n).getLsbD (12 + j) =
      ((List.range n).countP (m &&& colmaskB j).getLsbD % 2 == 1) := by
  induction n with
  | zero => simp [gRowSum]
  | succ n ih =>
    rw [getLsbD_gRowSum_succ, ih (by omega), getLsbD_gRow_parity (by omega) hj, List.range_succ,
      List.countP_append, List.countP_singleton, BitVec.getLsbD_and]
    rcases Nat.mod_two_eq_zero_or_one ((List.range n).countP (m &&& colmaskB j).getLsbD)
      with h | h <;> cases m.getLsbD n && (colmaskB j).getLsbD n <;> simp [h, Nat.add_mod]

/-- Parity bit j of a codeword is the dot product of the message with column j of B (R54). -/
theorem getLsbD_encodeWord_parity (m : Msg) {j : Nat} (hj : j < 12) :
    (encodeWord m).getLsbD (12 + j) = dot m (colmaskB j) := by
  rw [encodeWord, getLsbD_joinWord, if_neg (by omega), Nat.add_sub_cancel_left, getLsbD_vecMul,
    decide_eq_true hj, Bool.true_and]

/-- The low half of a codeword is its message (R54). -/
theorem getLsbD_encodeWord_of_lt (m : Msg) {i : Nat} (hi : i < 12) :
    (encodeWord m).getLsbD i = m.getLsbD i := by
  rw [encodeWord, getLsbD_joinWord, if_pos hi]

/-- The two forms of R54 agree: the I parts give the message, and column by column the selected rows of B give its
parities. -/
theorem encodeWord_eq_gRowSum (m : Msg) : encodeWord m = gRowSum m 12 := by
  apply BitVec.eq_of_getLsbD_eq
  intro c hc
  by_cases hlow : c < 12
  · rw [getLsbD_encodeWord_of_lt m hlow, getLsbD_gRowSum m 12 hlow]
    simp [hlow]
  · obtain ⟨j, rfl⟩ := Nat.exists_eq_add_of_le (Nat.le_of_not_lt hlow)
    have hj : j < 12 := by omega
    rw [getLsbD_encodeWord_parity m hj, getLsbD_gRowSum_parity m le_rfl hj, dot, parity,
      popcount_eq_countP]

/-- Settles O1: the operation leaves the codeword of the masked message on its own ports, and the tables of R18 and
R20 are the columns of B and the rows of G. -/
theorem encodeMultipliesByGenerator : Obligations.EncodeMultipliesByGenerator := by
  intro n s
  refine ⟨_, exec_encode n s, rfl, fun i hi => ?_, fun j hj => ?_, ?_, setEncoder_frame s _⟩
  · exact getLsbD_encodeWord_of_lt (trunc12 n) hi
  · exact getLsbD_encodeWord_parity (trunc12 n) hj
  · exact encodeWord_eq_gRowSum (trunc12 n)

end Sys2Proof.Machine
end

section
/-!
PROOFS. The syndrome calculator (41_syndrome_calculator.md): the syndrome of `{p, m}` is the recomputed parity of m XOR the
received parity p (R56). With the linearity of the product, R57 follows: a syndrome s names the coset of `{s, 0}`.
-/

namespace Sys2Proof.Machine

/-- Bit k of a syndrome is the parity of the received word under row k of H (R56). -/
theorem getLsbD_syndromeOf (r : Word24) {k : Nat} (hk : k < 12) :
    (syndromeOf r).getLsbD k = parity (r &&& hRow k) := by
  rw [syndromeOf, getLsbD_vecMul, decide_eq_true hk, Bool.true_and, dot]

/-- Entry k of the list of the rows of H, which is the table of R21, is row k. -/
theorem getD_map_hRow {k : Nat} (hk : k < 12) :
    ((List.range 12).map hRow).getD k 0#24 = hRow k := by
  simp [hk]

/-- Row k of H meets the received parity in its bit k alone, and the message in column k of B (R21, R56). -/
theorem syndromeOf_joinWord (p m : BitVec 12) :
    syndromeOf (joinWord p m) = vecMul m colmaskB 12 ^^^ p := by
  apply BitVec.eq_of_getLsbD_eq
  intro k hk
  calc (syndromeOf (joinWord p m)).getLsbD k
      = dot (p ++ m) (BitVec.twoPow 12 k ++ colmaskB k) := getLsbD_syndromeOf _ hk
    _ = (p.getLsbD k ^^ dot m (colmaskB k)) := by rw [dot_append, dot_twoPow p hk]
    _ = (vecMul m colmaskB 12 ^^^ p).getLsbD k := by
        rw [BitVec.getLsbD_xor, getLsbD_vecMul, decide_eq_true hk, Bool.true_and, Bool.xor_comm]

/-- The second form of R56: the recomputed parity XOR the received parity. -/
theorem syndromeOf_eq_parity_xor (r : Word24) :
    syndromeOf r = pPart (encodeWord (mPart r)) ^^^ pPart r := by
  rw [pPart_encodeWord, ← syndromeOf_joinWord, joinWord_parts]

/-- A word with nothing but a parity part is its own syndrome. -/
theorem syndromeOf_joinWord_zero (s : Syn) : syndromeOf (joinWord s 0#12) = s := by
  rw [syndromeOf_joinWord, vecMul_zero, BitVec.zero_xor]

/-- A codeword's parity is the recomputed one, so its syndrome is zero. -/
theorem syndromeOf_encodeWord (m : Msg) : syndromeOf (encodeWord m) = 0#12 := by
  rw [encodeWord, syndromeOf_joinWord, BitVec.xor_self]

/-- The syndrome of a received word is that of its error (R57). -/
theorem syndromeOf_encodeWord_xor (m : Msg) (e : Word24) :
    syndromeOf (encodeWord m ^^^ e) = syndromeOf e := by
  rw [Laws.syndromeOf_xor, syndromeOf_encodeWord, BitVec.zero_xor]

/-- An error in the parity part of a codeword leaves its message as it is. -/
theorem encodeWord_xor_joinWord_zero (m : Msg) (s : Syn) :
    encodeWord m ^^^ joinWord s 0#12 = joinWord (vecMul m colmaskB 12 ^^^ s) m := by
  rw [encodeWord, joinWord, joinWord, joinWord, BitVec.xor_append, BitVec.xor_zero]

/-- The words with syndrome s are the codewords with s XORed into their parity. -/
theorem syndromeOf_eq_iff {r : Word24} {s : Syn} :
    syndromeOf r = s ↔ r = encodeWord (mPart r) ^^^ joinWord s 0#12 := by
  constructor
  · rintro rfl
    rw [encodeWord_xor_joinWord_zero, syndromeOf_eq_parity_xor, pPart_encodeWord,
      ← BitVec.xor_assoc, BitVec.xor_self, BitVec.zero_xor, joinWord_parts]
  · intro h
    rw [h, syndromeOf_encodeWord_xor, syndromeOf_joinWord_zero]

/-- A word with zero syndrome is the codeword of its own message. -/
theorem syndromeOf_eq_zero_iff {r : Word24} : syndromeOf r = 0#12 ↔ r = encodeWord (mPart r) := by
  have hzero : joinWord 0#12 0#12 = 0#24 := rfl
  rw [syndromeOf_eq_iff, hzero, BitVec.xor_zero]

/-- A coset has one word for each message: a word's own m-part is the only message that gives it. -/
theorem eq_encodeWord_xor_iff_existsUnique {r : Word24} {s : Syn} :
    r = encodeWord (mPart r) ^^^ joinWord s 0#12 ↔
      ∃! m : Msg, r = encodeWord m ^^^ joinWord s 0#12 := by
  have hpart {m : Msg} (h : r = encodeWord m ^^^ joinWord s 0#12) : m = mPart r := by
    rw [h, encodeWord_xor_joinWord_zero, mPart_joinWord]
  constructor
  · exact fun h => ⟨mPart r, h, fun _ => hpart⟩
  · rintro ⟨m, h, -⟩
    rwa [← hpart h]

/-- The worked scenario's received word is the codeword of 0x273 with its error of weight 3. -/
theorem worked_received_word : 0x2DE2F7#24 = encodeWord 0x273#12 ^^^ 0x010084#24 := by decide

/-- The syndrome of the worked scenario's error. -/
theorem syndromeOf_worked_error : syndromeOf 0x010084#24 = 0x55E#12 := by decide

/-- Settles O4: the operation leaves the syndrome of the masked word on its own ports, and the table of R21 is the
rows of H. -/
theorem syndromeMultipliesByParityCheck : Obligations.SyndromeMultipliesByParityCheck := by
  intro n s
  obtain ⟨-, htable, -, -⟩ := parityCheckAnnihilatesTheGenerator
  refine ⟨_, exec_syndrome n s, rfl, fun k hk => ?_, ?_, setSyndrome_frame s _⟩
  · rw [← htable, getD_map_hRow hk]
    exact getLsbD_syndromeOf (trunc24 n) hk
  · exact syndromeOf_eq_parity_xor (trunc24 n)

/-- Settles O5: the words with a given syndrome are a coset of the codewords, one word for each message. -/
theorem syndromeLocatesTheCoset : Obligations.SyndromeLocatesTheCoset := by
  refine ⟨fun _ => syndromeOf_eq_zero_iff, Laws.syndromeOf_xor, syndromeOf_encodeWord_xor,
    syndromeOf_joinWord_zero, fun s r => ?_, syndromeOf_worked_error, ?_⟩
  · exact syndromeOf_eq_iff.trans eq_encodeWord_xor_iff_existsUnique
  · rw [worked_received_word, syndromeOf_encodeWord_xor, syndromeOf_worked_error]

end Sys2Proof.Machine
end

section
/-!
PROOFS. The entries of the ROM (42_syndrome_lookup_table.md): what a read of the hardware's ROM gives (R59), which entries
are correctable, and that a syndrome has at most one pattern of weight at most 3 (R60).
-/

namespace Sys2Proof.Machine

/-- The hardware's ROM reads as R59 fixes at every index. -/
theorem memRead_intact {st : State} (hst : RomIntact st) (s : Syn) :
    memRead st.rom s = .next (romContents s) := by
  rw [hst, memRead_nil]

/-- An index that is no low-weight pattern's syndrome holds the sentinel (R59). -/
theorem romContents_eq_sentinel {s : Syn} (h : ∀ e, popcount e ≤ 3 → syndromeOf e ≠ s) :
    romContents s = sentinel := by
  obtain ⟨e, he, hs, -⟩ | ⟨-, hrom⟩ := romContents_cases s
  · exact absurd hs (h e he)
  · exact hrom

/-- No two patterns of weight at most 3 share a syndrome (R60): the entry there would be both. -/
theorem eq_of_syndromeOf_eq {a b : Word24} (ha : popcount a ≤ 3) (hb : popcount b ≤ 3)
    (h : syndromeOf a = syndromeOf b) : a = b := by
  have hentry : joinEntry 0#1 a = joinEntry 0#1 b := by
    rw [← Laws.romContents_syndromeOf ha, h, Laws.romContents_syndromeOf hb]
  simpa using congrArg entryE hentry

/-- The correctable entries are those at the syndromes of the low-weight patterns. -/
theorem entryU_romContents_eq_zero_iff {s : Syn} :
    entryU (romContents s) = 0#1 ↔ ∃ e, popcount e ≤ 3 ∧ syndromeOf e = s := by
  constructor
  · intro hu
    obtain ⟨e, he, hs, -⟩ | ⟨-, hrom⟩ := romContents_cases s
    · exact ⟨e, he, hs⟩
    · rw [hrom, sentinel, entryU_joinEntry] at hu
      exact absurd hu (by decide)
  · rintro ⟨e, he, rfl⟩
    rw [Laws.romContents_syndromeOf he, entryU_joinEntry]

theorem entryU_romContents_eq_one_iff {s : Syn} :
    entryU (romContents s) = 1#1 ↔ ∀ e, popcount e ≤ 3 → syndromeOf e ≠ s := by
  have hnot : entryU (romContents s) = 1#1 ↔ ¬ entryU (romContents s) = 0#1 := by
    obtain h | h := bit_cases (entryU (romContents s)) <;> rw [h] <;> decide
  rw [hnot, entryU_romContents_eq_zero_iff]
  push Not
  rfl

/-- Settles O7: an intact ROM, the ROM after reset and the ROM after a step of an intact one all read as the contents,
which are the low-weight pattern of the index or, where it has none, the sentinel. -/
theorem romHoldsTheLowWeightPattern : Obligations.RomHoldsTheLowWeightPattern := by
  intro st hst s
  refine ⟨romContents s, memRead_intact hst s, ?_, fun h => romContents_eq_sentinel h,
    memRead_nil s, fun t ht => ?_⟩
  · rintro e he rfl
    exact Laws.romContents_syndromeOf he
  · rw [step_memRead ht, memRead_intact hst]

theorem getLsbD_entryU (x : LutWord) : (entryU x).getLsbD 0 = x.getLsbD 24 := by
  simp [entryU]

theorem getLsbD_entryE (x : LutWord) {i : Nat} (hi : i < 24) :
    (entryE x).getLsbD i = x.getLsbD i := by
  simp [entryE, hi]

/-- Settles O6: LOOKUP leaves on its own ports the two slices of the entry that the read gives. -/
theorem lookupSplitsTheRomEntry : Obligations.LookupSplitsTheRomEntry := by
  intro n s hs
  exact ⟨_, _, exec_lookup_intact n hs, memRead_intact hs _, rfl, rfl, getLsbD_entryU _,
    fun _ hi => getLsbD_entryE _ hi, setLookup_frame s _⟩

end Sys2Proof.Machine
end

section
/-!
PROOFS. The single errors (42_syndrome_lookup_table.md R62): their syndromes and entries, and that a word is the XOR of the
single errors in its set bits, which the syndrome respects.
-/

namespace Sys2Proof.Machine

/-- The XOR of the single errors in those of the low `n` bits that are set in `e`. -/
def setBitsSum (e : Word24) (n : Nat) : Word24 :=
  (List.range n).foldl (fun acc c => if e.getLsbD c then acc ^^^ 1#24 <<< c else acc) 0#24

theorem setBitsSum_succ (e : Word24) (n : Nat) :
    setBitsSum e (n + 1) =
      if e.getLsbD n then setBitsSum e n ^^^ BitVec.twoPow 24 n else setBitsSum e n := by
  rw [setBitsSum, List.range_succ, List.foldl_append]
  rfl

/-- Bit c of the sum is bit c of the word, once the sum has passed it. -/
theorem getLsbD_setBitsSum (e : Word24) (n : Nat) {c : Nat} (hc : c < 24) :
    (setBitsSum e n).getLsbD c = (decide (c < n) && e.getLsbD c) := by
  induction n with
  | zero => simp [setBitsSum]
  | succ n ih =>
    have hbit : (setBitsSum e (n + 1)).getLsbD c =
        ((setBitsSum e n).getLsbD c ^^ (e.getLsbD n && decide (n = c))) := by
      rw [setBitsSum_succ]
      cases e.getLsbD n <;> simp [hc, eq_comm (a := c)]
    rw [hbit, ih]
    rcases Nat.lt_trichotomy c n with h | rfl | h
    · simp [h, Nat.lt_succ_of_lt h, Nat.ne_of_gt h]
    · simp
    · simp [Nat.not_lt_of_gt h, Nat.not_lt.mpr (Nat.succ_le_of_lt h), Nat.ne_of_lt h]

/-- A word is the XOR of the single errors in its set bits. -/
theorem setBitsSum_all (e : Word24) : setBitsSum e 24 = e := by
  apply BitVec.eq_of_getLsbD_eq
  intro c hc
  rw [getLsbD_setBitsSum e 24 hc, decide_eq_true hc, Bool.true_and]

/-- The syndrome turns the XOR of single errors into the XOR of their syndromes. -/
theorem syndromeOf_setBitsSum (e : Word24) (n : Nat) :
    syndromeOf (setBitsSum e n) =
      (List.range n).foldl
        (fun acc c => if e.getLsbD c then acc ^^^ syndromeOf (1#24 <<< c) else acc) 0#12 := by
  have hzero : syndromeOf 0#24 = 0#12 := vecMul_zero hRow 12
  rw [setBitsSum, ← hzero]
  refine (List.foldl_hom syndromeOf fun acc c => ?_).symm
  cases e.getLsbD c
  · rfl
  · exact (Laws.syndromeOf_xor acc (1#24 <<< c)).symm

/-- The table of R62: the single errors have the rows of B and the unit vectors as their syndromes. -/
theorem syndromeOf_single : ∀ c < 24, syndromeOf (1#24 <<< c) =
    [0xA3B#12, 0xC76#12, 0x8ED#12, 0x9DA#12, 0xBB4#12, 0xF68#12, 0xED1#12, 0xDA3#12,
     0xB47#12, 0xE8E#12, 0xD1D#12, 0x7FF#12, 0x001#12, 0x002#12, 0x004#12, 0x008#12,
     0x010#12, 0x020#12, 0x040#12, 0x080#12, 0x100#12, 0x200#12, 0x400#12, 0x800#12].getD c 0#12 := by
  decide

theorem joinEntry_zero_single : ∀ c < 24, joinEntry 0#1 (1#24 <<< c) = 1#25 <<< c := by
  decide

/-- A single error stands at its syndrome, having weight 1 (R62). -/
theorem romContents_single {c : Nat} (hc : c < 24) :
    romContents (syndromeOf (1#24 <<< c)) = 1#25 <<< c := by
  have hw : popcount (1#24 <<< c) = 1 := popcount_twoPow hc
  rw [Laws.romContents_syndromeOf (by omega), joinEntry_zero_single c hc]

/-- Settles O11: a single error is a pattern of weight 1, and any word is the XOR of those in its set bits. -/
theorem singleErrorRomEntries : Obligations.SingleErrorRomEntries := by
  refine ⟨fun c hc => ⟨syndromeOf_single c hc, romContents_single hc⟩, fun e => ?_⟩
  rw [← syndromeOf_setBitsSum, setBitsSum_all]

end Sys2Proof.Machine
end

section
/-!
PROOFS. The construction loop (42_syndrome_lookup_table.md R61): where the patterns of a list have distinct syndromes, the
loop records each of them at its own syndrome and leaves every other slot as it was.
-/

namespace Sys2Proof.Machine

/-- One turn of the loop of R61: an empty slot takes the pattern, a filled one keeps what it has. -/
def fillSlot (slot : Syn → Option LutWord) (e : Word24) : Syn → Option LutWord :=
  if slot (syndromeOf e) = none then Function.update slot (syndromeOf e) (some (0#1 ++ e)) else slot

theorem fillSlot_of_ne {slot : Syn → Option LutWord} {e : Word24} {s : Syn} (h : s ≠ syndromeOf e) :
    fillSlot slot e s = slot s := by
  unfold fillSlot
  split
  · exact Function.update_of_ne h _ _
  · rfl

theorem fillSlot_self {slot : Syn → Option LutWord} {e : Word24} (h : slot (syndromeOf e) = none) :
    fillSlot slot e (syndromeOf e) = some (joinEntry 0#1 e) := by
  rw [fillSlot, if_pos h, Function.update_self]
  rfl

/-- The loop leaves a slot alone whose index no pattern of the list has as its syndrome. -/
theorem foldl_fillSlot_of_notMem {l : List Word24} {slot : Syn → Option LutWord} {s : Syn}
    (h : s ∉ l.map syndromeOf) : l.foldl fillSlot slot s = slot s := by
  induction l generalizing slot with
  | nil => rfl
  | cons a l ih =>
    rw [List.map_cons, List.mem_cons, not_or] at h
    obtain ⟨hne, hl⟩ := h
    rw [List.foldl_cons, ih hl, fillSlot_of_ne hne]

/-- The loop records each pattern of the list whose slot it finds empty. -/
theorem foldl_fillSlot_of_mem {l : List Word24} {slot : Syn → Option LutWord} {e : Word24}
    (hl : (l.map syndromeOf).Nodup) (he : e ∈ l) (hslot : slot (syndromeOf e) = none) :
    l.foldl fillSlot slot (syndromeOf e) = some (joinEntry 0#1 e) := by
  induction l generalizing slot with
  | nil => cases he
  | cons a l ih =>
    obtain ⟨ha, hl⟩ := List.nodup_cons.mp hl
    rw [List.foldl_cons]
    obtain rfl | he := List.mem_cons.mp he
    · rw [foldl_fillSlot_of_notMem ha, fillSlot_self hslot]
    · have hne : syndromeOf e ≠ syndromeOf a :=
        fun heq => ha (heq ▸ List.mem_map_of_mem he)
      exact ih hl he ((fillSlot_of_ne hne).trans hslot)

/-- Low-weight patterns that differ have syndromes that differ (R60). -/
theorem nodup_map_syndromeOf {l : List Word24} (hw : ∀ e ∈ l, popcount e ≤ 3) (hl : l.Nodup) :
    (l.map syndromeOf).Nodup :=
  hl.map_on fun _ ha _ hb h => eq_of_syndromeOf_eq (hw _ ha) (hw _ hb) h

/-- Settles O10: the slot of an index with a pattern is filled once, with that pattern, and the slot of any other index
stays empty. -/
theorem constructionLoopGivesTheRom : Obligations.ConstructionLoopGivesTheRom := by
  intro l hmem hl
  have hsyn : (l.map syndromeOf).Nodup := nodup_map_syndromeOf (fun e he => (hmem e).mp he) hl
  refine ⟨hsyn, fun s => ?_⟩
  change (l.foldl fillSlot (fun _ => none) s).getD sentinel = romContents s
  obtain ⟨e, he, rfl, hrom⟩ | ⟨hnone, hrom⟩ := romContents_cases s
  · rw [foldl_fillSlot_of_mem hsyn ((hmem e).mpr he) rfl, Option.getD_some, hrom]
  · have hs : s ∉ l.map syndromeOf := fun hs => by
      obtain ⟨e, he, heq⟩ := List.mem_map.mp hs
      exact hnone e ((hmem e).mp he) heq
    rw [foldl_fillSlot_of_notMem hs, Option.getD_none, hrom]

end Sys2Proof.Machine
end

section
/-!
PROOFS. How many entries of each kind the ROM has (42_syndrome_lookup_table.md R60). The indices of the entries of one kind
are the syndromes of a list of patterns, no two alike, so there are as many as the list is long.
-/

namespace Sys2Proof.Machine

/-- Different numbers below 2^w are different words of w bits. -/
theorem nodup_map_ofNat {w : Nat} {l : List Nat} (hl : l.Nodup) (hlt : ∀ x ∈ l, x < 2 ^ w) :
    (l.map (BitVec.ofNat w)).Nodup := by
  refine hl.map_on fun x hx y hy h => ?_
  have hnat := congrArg BitVec.toNat h
  rwa [BitVec.toNat_ofNat, BitVec.toNat_ofNat, Nat.mod_eq_of_lt (hlt x hx),
    Nat.mod_eq_of_lt (hlt y hy)] at hnat

/-- The 4096 indices of the ROM. -/
def romIndices : List Syn := (List.range 4096).map (BitVec.ofNat 12)

theorem mem_romIndices (s : Syn) : s ∈ romIndices :=
  List.mem_map.mpr ⟨s.toNat, List.mem_range.mpr s.isLt, by simp⟩

theorem nodup_romIndices : romIndices.Nodup :=
  nodup_map_ofNat List.nodup_range fun _ => List.mem_range.mp

theorem countP_romIndices (p : Syn → Bool) :
    (List.range 4096).countP (fun n => p (BitVec.ofNat 12 n)) = romIndices.countP p :=
  List.countP_map.symm

/-- As many indices have a property as there are patterns whose syndromes they are. -/
theorem countP_romIndices_eq_length {l : List Word24} {p : Syn → Bool}
    (hl : (l.map syndromeOf).Nodup) (hp : ∀ s, p s = true ↔ s ∈ l.map syndromeOf) :
    romIndices.countP p = l.length := by
  have hperm : (romIndices.filter p).Perm (l.map syndromeOf) :=
    (List.perm_ext_iff_of_nodup (nodup_romIndices.filter p) hl).mpr fun s => by
      rw [List.mem_filter, hp]
      exact and_iff_right (mem_romIndices s)
  rw [List.countP_eq_length_filter, hperm.length_eq, List.length_map]

/-- The 24-bit patterns of weight `w`. -/
def wordsOfWeight (w : Nat) : List Word24 := (patternsOfWeight 24 w).map (BitVec.ofNat 24)

theorem mem_wordsOfWeight {w : Nat} {e : Word24} : e ∈ wordsOfWeight w ↔ popcount e = w := by
  rw [wordsOfWeight, List.mem_map]
  constructor
  · rintro ⟨x, hx, rfl⟩
    obtain ⟨hlt, hw⟩ := Laws.mem_patternsOfWeight.mp hx
    rw [popcount, BitVec.toNat_ofNat, Nat.mod_eq_of_lt hlt, hw]
  · exact fun h => ⟨e.toNat, Laws.mem_patternsOfWeight.mpr ⟨e.isLt, h⟩, by simp⟩

theorem nodup_wordsOfWeight (w : Nat) : (wordsOfWeight w).Nodup :=
  nodup_map_ofNat (Laws.nodup_patternsOfWeight 24 w) fun _ hx => (Laws.mem_patternsOfWeight.mp hx).1

/-- The enumeration of R61 follows Pascal's rule. -/
theorem length_patternsOfWeight (n w : Nat) : (patternsOfWeight n w).length = n.choose w := by
  induction n generalizing w with
  | zero => cases w <;> rfl
  | succ n ih =>
    cases w with
    | zero => rfl
    | succ w =>
      rw [patternsOfWeight, List.length_append, List.length_map, ih, ih, Nat.choose_succ_succ,
        Nat.add_comm]

theorem length_wordsOfWeight (w : Nat) : (wordsOfWeight w).length = Nat.choose 24 w := by
  rw [wordsOfWeight, List.length_map, length_patternsOfWeight]

/-- The entries with a pattern of weight w are those at the syndromes of the patterns of weight w. -/
theorem entry_of_weight_iff {w : Nat} (hw : w ≤ 3) (s : Syn) :
    (entryU (romContents s) == 0#1 && popcount (entryE (romContents s)) == w) = true ↔
      s ∈ (wordsOfWeight w).map syndromeOf := by
  rw [Bool.and_eq_true, beq_iff_eq, beq_iff_eq, List.mem_map]
  constructor
  · rintro ⟨hu, hpop⟩
    obtain ⟨e, he, rfl⟩ := entryU_romContents_eq_zero_iff.mp hu
    rw [Laws.romContents_syndromeOf he, entryE_joinEntry] at hpop
    exact ⟨e, mem_wordsOfWeight.mpr hpop, rfl⟩
  · rintro ⟨e, he, rfl⟩
    have hpop := mem_wordsOfWeight.mp he
    rw [Laws.romContents_syndromeOf (hpop.trans_le hw), entryU_joinEntry, entryE_joinEntry]
    exact ⟨rfl, hpop⟩

theorem countP_entry_of_weight {w : Nat} (hw : w ≤ 3) :
    romIndices.countP
      (fun s => entryU (romContents s) == 0#1 && popcount (entryE (romContents s)) == w) =
        Nat.choose 24 w := by
  have hsyn : ((wordsOfWeight w).map syndromeOf).Nodup :=
    nodup_map_syndromeOf (fun e he => (mem_wordsOfWeight.mp he).trans_le hw) (nodup_wordsOfWeight w)
  rw [countP_romIndices_eq_length hsyn (entry_of_weight_iff hw), length_wordsOfWeight]

/-- Each of the 2325 patterns has an entry of its own, and no other entry is correctable (R60). -/
theorem countP_correctable : romIndices.countP (fun s => entryU (romContents s) == 0#1) = 2325 := by
  have hsyn : (errorPatterns.map syndromeOf).Nodup :=
    nodup_map_syndromeOf (fun e he => Laws.mem_errorPatterns.mp he) Laws.nodup_errorPatterns
  have hiff (s : Syn) : (entryU (romContents s) == 0#1) = true ↔ s ∈ errorPatterns.map syndromeOf := by
    rw [beq_iff_eq, entryU_romContents_eq_zero_iff, List.mem_map]
    simp only [Laws.mem_errorPatterns]
  rw [countP_romIndices_eq_length hsyn hiff, Laws.length_errorPatterns]

/-- The other 1771 of the 4096 entries are UNCORRECTABLE (R60). -/
theorem countP_uncorrectable :
    romIndices.countP (fun s => entryU (romContents s) == 1#1) = 1771 := by
  have hlen : romIndices.length = 4096 := by rw [romIndices, List.length_map, List.length_range]
  have hsplit := List.length_eq_countP_add_countP (fun s => entryU (romContents s) == 0#1)
    (l := romIndices)
  have hother : romIndices.countP (fun s => entryU (romContents s) == 1#1) =
      romIndices.countP (fun s => ¬ (entryU (romContents s) == 0#1) = true) :=
    List.countP_congr fun s _ => by
      obtain h | h := bit_cases (entryU (romContents s)) <;> simp [h]
  rw [hlen, countP_correctable, ← hother] at hsplit
  omega

/-- The pattern of a correctable entry leads its coset: any other word of it has weight above 3 (R60). -/
theorem entryE_leads_coset {s : Syn} (hu : entryU (romContents s) = 0#1) :
    syndromeOf (entryE (romContents s)) = s ∧
      ∀ e : Word24, syndromeOf e = s → e ≠ entryE (romContents s) →
        3 < popcount e ∧ popcount (entryE (romContents s)) < popcount e := by
  obtain ⟨a, ha, rfl⟩ := entryU_romContents_eq_zero_iff.mp hu
  rw [Laws.romContents_syndromeOf ha, entryE_joinEntry]
  refine ⟨rfl, fun e hs hne => ?_⟩
  have hheavy : 3 < popcount e := by
    by_contra hlight
    exact hne (eq_of_syndromeOf_eq (by omega) ha hs)
  exact ⟨hheavy, ha.trans_lt hheavy⟩

/-- Settles O8: the counts of patterns are the binomial coefficients of 24, and their entries are as many. -/
theorem romEntryCountsAndUniqueness : Obligations.RomEntryCountsAndUniqueness := by
  refine ⟨fun a b => eq_of_syndromeOf_eq, ?_, ?_, fun s => entryE_leads_coset⟩
  · calc _ = [0, 1, 2, 3].map (Nat.choose 24) := List.map_congr_left fun w hw => by
          have hw3 : w ≤ 3 := by
            simp only [List.mem_cons, List.not_mem_nil, or_false] at hw
            omega
          rw [← countP_entry_of_weight hw3, ← countP_romIndices]
      _ = [1, 24, 276, 2024] := by decide
  · rw [← countP_uncorrectable, ← countP_romIndices]

end Sys2Proof.Machine
end

section
/-!
PROOFS. The least weight of a codeword (42_syndrome_lookup_table.md R60, R64). A non-zero codeword is not the XOR of two
patterns of weight at most 3, for these would share a syndrome, so its weight is at least 7; and it is even, so at least 8.
-/

namespace Sys2Proof.Machine

/-- Every row of G has even weight: that of a row of B, which is odd, and one more (R20). -/
theorem parity_gRow {i : Nat} (hi : i < 12) : parity (gRow i) = false := by
  rw [gRow_eq, parity_append, parity_rowmaskB hi, parity, popcount_twoPow hi]
  rfl

theorem gRowSum_succ (m : Msg) (n : Nat) :
    gRowSum m (n + 1) = if m.getLsbD n then gRowSum m n ^^^ gRow n else gRowSum m n := by
  rw [gRowSum, List.range_succ, List.foldl_append]
  rfl

theorem parity_gRowSum (m : Msg) {n : Nat} (hn : n ≤ 12) : parity (gRowSum m n) = false := by
  induction n with
  | zero => exact parity_zero 24
  | succ n ih =>
    rw [gRowSum_succ]
    split
    · rw [parity_xor, ih (by omega), parity_gRow (by omega), Bool.xor_false]
    · exact ih (by omega)

/-- Every codeword has even weight. -/
theorem parity_encodeWord (m : Msg) : parity (encodeWord m) = false := by
  rw [encodeWord_eq_gRowSum, parity_gRowSum m le_rfl]

theorem popcount_even_of_syndromeOf_eq_zero {c : Word24} (h : syndromeOf c = 0#12) :
    popcount c % 2 = 0 := by
  have hpar : parity c = false := by rw [syndromeOf_eq_zero_iff.mp h, parity_encodeWord]
  rw [parity, beq_eq_false_iff_ne] at hpar
  omega

/-- Clearing a set bit takes 1 from the weight. -/
theorem popcount_xor_twoPow {w i : Nat} {v : BitVec w} (hi : i < w) (h : v.getLsbD i = true) :
    popcount (v ^^^ BitVec.twoPow w i) + 1 = popcount v := by
  have hadd := popcount_xor_add v (BitVec.twoPow w i)
  rw [BitVec.and_twoPow, if_pos h, popcount_twoPow hi] at hadd
  omega

/-- A word of weight at most a + b is the XOR of a word of weight at most a and one of weight at most b. -/
theorem exists_xor_of_popcount_le {w a b : Nat} {v : BitVec w} (h : popcount v ≤ a + b) :
    ∃ x y, v = x ^^^ y ∧ popcount x ≤ a ∧ popcount y ≤ b := by
  induction a generalizing v with
  | zero => exact ⟨0#w, v, by simp, by simp, by omega⟩
  | succ a ih =>
    by_cases hbit : ∃ i < w, v.getLsbD i = true
    · obtain ⟨i, hi, hset⟩ := hbit
      have hclear := popcount_xor_twoPow hi hset
      obtain ⟨x, y, hxy, hx, hy⟩ := ih (v := v ^^^ BitVec.twoPow w i) (by omega)
      have hle := popcount_xor_le (BitVec.twoPow w i) x
      rw [popcount_twoPow hi] at hle
      refine ⟨BitVec.twoPow w i ^^^ x, y, ?_, by omega, hy⟩
      rw [BitVec.xor_assoc, ← hxy, BitVec.xor_comm v, ← BitVec.xor_assoc, BitVec.xor_self,
        BitVec.zero_xor]
    · have hzero : v = 0#w := BitVec.eq_of_getLsbD_eq fun i hi => by
        simpa using fun hset => hbit ⟨i, hi, hset⟩
      exact ⟨0#w, 0#w, by simp [hzero], by simp, by simp⟩

/-- The XOR of two words is a codeword exactly where they share a syndrome. -/
theorem syndromeOf_xor_eq_zero_iff {a b : Word24} :
    syndromeOf (a ^^^ b) = 0#12 ↔ syndromeOf a = syndromeOf b := by
  rw [Laws.syndromeOf_xor, BitVec.xor_eq_zero_iff]

/-- A non-zero codeword has weight at least 8. -/
theorem eight_le_popcount_of_syndromeOf_eq_zero {c : Word24} (h : syndromeOf c = 0#12)
    (hne : c ≠ 0#24) : 8 ≤ popcount c := by
  have heven := popcount_even_of_syndromeOf_eq_zero h
  by_contra hlight
  obtain ⟨a, b, rfl, ha, hb⟩ := exists_xor_of_popcount_le (a := 3) (b := 3) (v := c) (by omega)
  have hab : a = b := eq_of_syndromeOf_eq ha hb (syndromeOf_xor_eq_zero_iff.mp h)
  exact hne (BitVec.xor_eq_zero_iff.mpr hab)

/-- Two different words of one coset differ in at least 8 bits. -/
theorem eight_le_popcount_xor {a b : Word24} (h : syndromeOf a = syndromeOf b) (hne : a ≠ b) :
    8 ≤ popcount (a ^^^ b) :=
  eight_le_popcount_of_syndromeOf_eq_zero (syndromeOf_xor_eq_zero_iff.mpr h)
    (mt BitVec.xor_eq_zero_iff.mp hne)

end Sys2Proof.Machine
end

section
/-!
PROOFS. The cosets of the UNCORRECTABLE entries (42_syndrome_lookup_table.md R64). Two patterns of weight 4 in one coset
differ in 8 bits, so they are disjoint and the 24 bits hold at most six of them. There are 10626 of them, all in the 1771
UNCORRECTABLE cosets, and 10626 is 1771 · 6: each coset has all six.
-/

namespace Sys2Proof.Machine

/-- The set bits of a word. -/
def support (e : Word24) : Finset Nat := (Finset.range 24).filter (e.getLsbD · = true)

theorem card_support (e : Word24) : (support e).card = popcount e := by
  rw [popcount_eq_countP, List.countP_eq_length_filter, ← List.toFinset_card_of_nodup
    (List.nodup_range.filter _), List.toFinset_filter, List.toFinset_range, support]

/-- Words with no set bit in common have disjoint supports. -/
theorem disjoint_support {a b : Word24} (h : popcount (a &&& b) = 0) :
    Disjoint (support a) (support b) := by
  rw [Finset.disjoint_left]
  intro i ha hb
  have hand : (a &&& b).getLsbD i = true := by
    rw [BitVec.getLsbD_and, (Finset.mem_filter.mp ha).2, (Finset.mem_filter.mp hb).2, Bool.and_self]
  rw [popcount_eq_zero.mp h] at hand
  simp at hand

/-- The patterns of weight 4 with syndrome s. -/
def weightFourLeaders (s : Syn) : Finset Word24 :=
  (wordsOfWeight 4).toFinset.filter (syndromeOf · = s)

theorem mem_weightFourLeaders {s : Syn} {e : Word24} :
    e ∈ weightFourLeaders s ↔ popcount e = 4 ∧ syndromeOf e = s := by
  rw [weightFourLeaders, Finset.mem_filter, List.mem_toFinset, mem_wordsOfWeight]

/-- Two patterns of weight 4 in one coset are disjoint: they differ in all of their 8 bits. -/
theorem disjoint_support_of_weightFourLeaders {s : Syn} {a b : Word24}
    (ha : a ∈ weightFourLeaders s) (hb : b ∈ weightFourLeaders s) (hne : a ≠ b) :
    Disjoint (support a) (support b) := by
  obtain ⟨ha4, has⟩ := mem_weightFourLeaders.mp ha
  obtain ⟨hb4, hbs⟩ := mem_weightFourLeaders.mp hb
  have hdist := eight_le_popcount_xor (has.trans hbs.symm) hne
  have hadd := popcount_xor_add a b
  exact disjoint_support (by omega)

/-- The 24 bits have room for six disjoint patterns of weight 4. -/
theorem card_weightFourLeaders_le (s : Syn) : (weightFourLeaders s).card ≤ 6 := by
  have hsum : ((weightFourLeaders s).biUnion support).card = (weightFourLeaders s).card * 4 := by
    rw [Finset.card_biUnion fun _ ha _ hb => disjoint_support_of_weightFourLeaders ha hb]
    exact Finset.sum_const_nat fun e he =>
      (card_support e).trans (mem_weightFourLeaders.mp he).1
  have hroom : (weightFourLeaders s).biUnion support ⊆ Finset.range 24 :=
    Finset.biUnion_subset.mpr fun _ _ => Finset.filter_subset _ _
  have hcard := Finset.card_le_card hroom
  rw [hsum, Finset.card_range] at hcard
  omega

/-- A pattern of weight 4 shares its syndrome with none of weight at most 3, as the two would differ in at most 7
bits. -/
theorem entryU_of_weight_four {e : Word24} (h : popcount e = 4) :
    entryU (romContents (syndromeOf e)) = 1#1 := by
  rw [entryU_romContents_eq_one_iff]
  intro a ha hs
  have hne : a ≠ e := by
    rintro rfl
    omega
  have hdist := eight_le_popcount_xor hs hne
  have hle := popcount_xor_le a e
  omega

/-- The indices of the UNCORRECTABLE entries. -/
def uncorrectableIndices : Finset Syn :=
  (romIndices.filter (fun s => entryU (romContents s) == 1#1)).toFinset

theorem mem_uncorrectableIndices {s : Syn} :
    s ∈ uncorrectableIndices ↔ entryU (romContents s) = 1#1 := by
  rw [uncorrectableIndices, List.mem_toFinset, List.mem_filter, beq_iff_eq]
  exact and_iff_right (mem_romIndices s)

theorem card_uncorrectableIndices : uncorrectableIndices.card = 1771 := by
  rw [uncorrectableIndices, List.toFinset_card_of_nodup (nodup_romIndices.filter _),
    ← List.countP_eq_length_filter, countP_uncorrectable]

/-- The UNCORRECTABLE cosets share out the 10626 patterns of weight 4. -/
theorem sum_card_weightFourLeaders :
    ∑ s ∈ uncorrectableIndices, (weightFourLeaders s).card = 10626 := by
  have hmaps : ∀ e ∈ (wordsOfWeight 4).toFinset, syndromeOf e ∈ uncorrectableIndices := by
    intro e he
    exact mem_uncorrectableIndices.mpr
      (entryU_of_weight_four (mem_wordsOfWeight.mp (List.mem_toFinset.mp he)))
  calc ∑ s ∈ uncorrectableIndices, (weightFourLeaders s).card
      = (wordsOfWeight 4).toFinset.card := (Finset.card_eq_sum_card_fiberwise hmaps).symm
    _ = Nat.choose 24 4 := by
        rw [List.toFinset_card_of_nodup (nodup_wordsOfWeight 4), length_wordsOfWeight]
    _ = 10626 := by decide

/-- Each UNCORRECTABLE coset has six leaders: it has no more, and with fewer the sum would fall short. -/
theorem card_weightFourLeaders {s : Syn} (h : entryU (romContents s) = 1#1) :
    (weightFourLeaders s).card = 6 := by
  have hsum : ∑ s ∈ uncorrectableIndices, (weightFourLeaders s).card =
      ∑ _s ∈ uncorrectableIndices, 6 := by
    rw [sum_card_weightFourLeaders, Finset.sum_const, card_uncorrectableIndices]
    rfl
  exact (Finset.sum_eq_sum_iff_of_le fun s _ => card_weightFourLeaders_le s).mp hsum s
    (mem_uncorrectableIndices.mpr h)

/-- Every syndrome is that of a pattern of weight at most 4. -/
theorem exists_leader (s : Syn) : ∃ e, popcount e ≤ 4 ∧ syndromeOf e = s := by
  obtain hu | hu := bit_cases (entryU (romContents s))
  · obtain ⟨e, he, hs⟩ := entryU_romContents_eq_zero_iff.mp hu
    exact ⟨e, by omega, hs⟩
  · have hpos : 0 < (weightFourLeaders s).card := by
      rw [card_weightFourLeaders hu]
      decide
    obtain ⟨e, he⟩ := Finset.card_pos.mp hpos
    obtain ⟨he4, hs⟩ := mem_weightFourLeaders.mp he
    exact ⟨e, he4.le, hs⟩

/-- Every word is within distance 4 of a codeword: XORing in a leader of its coset gives one. -/
theorem exists_codeword_within_four (r : Word24) :
    ∃ m : Msg, popcount (r ^^^ encodeWord m) ≤ 4 := by
  obtain ⟨e, he, hs⟩ := exists_leader (syndromeOf r)
  have hcode : r ^^^ e = encodeWord (mPart (r ^^^ e)) :=
    syndromeOf_eq_zero_iff.mp (syndromeOf_xor_eq_zero_iff.mpr hs.symm)
  refine ⟨mPart (r ^^^ e), ?_⟩
  rwa [← hcode, ← BitVec.xor_assoc, BitVec.xor_self, BitVec.zero_xor]

/-- A word of an UNCORRECTABLE coset has no codeword within distance 3: the difference would lie in its coset. -/
theorem four_le_distance {r : Word24} (hu : entryU (romContents (syndromeOf r)) = 1#1) (m : Msg) :
    4 ≤ popcount (r ^^^ encodeWord m) := by
  by_contra hnear
  refine entryU_romContents_eq_one_iff.mp hu (r ^^^ encodeWord m) (by omega) ?_
  rw [BitVec.xor_comm, syndromeOf_encodeWord_xor]

/-- Settles O9: the leaders of an UNCORRECTABLE coset are counted, and a pattern of weight 4 lies in no other. -/
theorem uncorrectableCosetsHaveSixLeaders : Obligations.UncorrectableCosetsHaveSixLeaders := by
  refine ⟨fun s hu => ?_, fun s hu e he hs => ?_, exists_codeword_within_four,
    fun r m hu => four_le_distance hu m⟩
  · exact ⟨(weightFourLeaders s).toList, Finset.nodup_toList _,
      (Finset.length_toList _).trans (card_weightFourLeaders hu),
      fun e => Finset.mem_toList.trans mem_weightFourLeaders⟩
  · rw [← hs, entryU_of_weight_four he] at hu
    exact absurd hu (by decide)

end Sys2Proof.Machine
end

section
/-!
PROOFS. The error corrector (43_error_corrector.md): CORRECT on every input (R67, R69), and why ECC needs no comparator for a
zero syndrome (R68): index 0 is the only one that holds U = 0 with E = 0.
-/

namespace Sys2Proof.Machine

/-- The mask of `cor_e` leaves the zero pattern exactly where the 24 low bits are zero (R10). -/
theorem trunc24_eq_zero_iff {n : Nat} : trunc24 n = 0#24 ↔ n % 2 ^ 24 = 0 := by
  rw [← BitVec.toNat_inj, trunc24, BitVec.toNat_ofNat, BitVec.toNat_ofNat, Nat.zero_mod]

theorem getLsbD_trunc24_xor (r e : Nat) {i : Nat} (hi : i < 24) :
    (trunc24 r ^^^ trunc24 e).getLsbD i = (r.testBit i ^^ e.testBit i) := by
  rw [BitVec.getLsbD_xor, trunc24, trunc24, BitVec.getLsbD_ofNat, BitVec.getLsbD_ofNat]
  simp only [hi, decide_true, Bool.true_and]

/-- Settles O14: with U = 1 the outputs do not depend on E, and with U = 0 the word is the XOR and the status tells
whether the masked E is zero. -/
theorem correctAppliesThePattern : Obligations.CorrectAppliesThePattern := by
  intro u e r s
  refine ⟨_, exec_correct u e r s, rfl, rfl, rfl, ?_, ?_, setCorrector_frame s _⟩
  · rintro rfl
    exact ⟨rfl, rfl, rfl⟩
  · rintro rfl
    refine ⟨fun i hi => getLsbD_trunc24_xor r e hi, rfl, fun he => ?_, fun he => ?_⟩
    · change outcomeStatus 0#1 (trunc24 e) = 0b00#2
      rw [trunc24_eq_zero_iff.mpr he, outcomeStatus_clean]
    · exact outcomeStatus_corrected (mt trunc24_eq_zero_iff.mp he)

/-- U = 0 with E = 0 stands at index 0 alone: the pattern of a correctable entry has the index as its syndrome, and the
zero pattern's syndrome is 0 (R68). -/
theorem entry_clean_iff (i : Syn) :
    (entryU (romContents i) = 0#1 ∧ entryE (romContents i) = 0#24) ↔ i = 0#12 := by
  constructor
  · rintro ⟨hu, he⟩
    obtain ⟨hsyn, -⟩ := entryE_leads_coset hu
    calc i = syndromeOf (entryE (romContents i)) := hsyn.symm
      _ = syndromeOf 0#24 := by rw [he]
      _ = 0#12 := vecMul_zero hRow 12
  · rintro rfl
    rw [romContents_zero]
    exact ⟨rfl, rfl⟩

/-- CLEAN stands for U = 0 with E = 0 (R47). -/
theorem outcomeStatus_eq_clean_iff (u : Bit) (e : Word24) :
    outcomeStatus u e = 0b00#2 ↔ u = 0#1 ∧ e = 0#24 :=
  (statusTable_outcome u e).1

/-- At a zero syndrome the channel passes the received word through with ok, which is the source's step 2 (R68). -/
theorem channelPorts_of_codeword {r : Word24} (h : syndromeOf r = 0#12) :
    (channelPorts r (romContents (syndromeOf r))).correctedOut = r ∧
      (channelPorts r (romContents (syndromeOf r))).okOut = 1#1 := by
  obtain ⟨hu, he⟩ := (entry_clean_iff (syndromeOf r)).mpr h
  rw [channelPorts_correctedOut, channelPorts_okOut, hu, he, correctedWord_zero, BitVec.xor_zero]
  exact ⟨rfl, outcomeOk_zero⟩

/-- Settles O17: CLEAN reports an entry with U = 0 and E = 0, which is the entry at syndrome zero, and E = 0 leaves the
received word as it is. -/
theorem cleanExactlyAtZeroSyndrome : Obligations.CleanExactlyAtZeroSyndrome := by
  intro n s hs
  refine ⟨_, exec_ecc_intact n hs, ?_, channelPorts_of_codeword, entry_clean_iff⟩
  exact (outcomeStatus_eq_clean_iff _ _).trans (entry_clean_iff _)

end Sys2Proof.Machine
end

section
/-!
PROOFS. The message extractor (44_message_extractor.md): EXTRACT on every word (R70, R71). The m-part is the operand
masked to 12 bits, so nothing above bit 11 takes part.
-/

namespace Sys2Proof.Machine

/-- The m-part of a carried word is the carrier masked to 12 bits: the p-part drops out (R71). -/
theorem extractMsg_trunc24 (n : Nat) : extractMsg (trunc24 n) = trunc12 n := by
  apply BitVec.eq_of_getLsbD_eq
  intro i hi
  have hi' : i < 24 := by omega
  rw [extractMsg, getLsbD_mPart, trunc24, trunc12, BitVec.getLsbD_ofNat, BitVec.getLsbD_ofNat]
  simp only [hi, hi', decide_true, Bool.true_and]

/-- Settles O15: the message is the operand masked to 12 bits, on a codeword as on any other word. -/
theorem extractReturnsTheMessagePart : Obligations.ExtractReturnsTheMessagePart := by
  intro n s
  refine ⟨_, exec_extract n s, rfl, fun i hi => ?_, fun n' h => ⟨_, exec_extract n' s, ?_⟩,
    setExtractor_frame s _⟩
  · rw [State.setExtractor_extractor, extractorPorts_extMsg, extractMsg_trunc24, trunc12,
      BitVec.getLsbD_ofNat, decide_eq_true hi, Bool.true_and]
  · calc extractMsg (trunc24 n')
        = trunc12 (n' % 2 ^ 12) := by rw [extractMsg_trunc24, trunc12_mod]
      _ = trunc12 (n % 2 ^ 12) := by rw [h]
      _ = extractMsg (trunc24 n) := by rw [extractMsg_trunc24, trunc12_mod]

end Sys2Proof.Machine
end

section
/-!
PROOFS. The decode channel (45_ecc_pipeline.md): what ECC gives on every word (R72, R73). On the hardware's ROM its outputs
are those of `eccPorts`, and there are two cases. The received word shares its syndrome with a pattern of weight at most 3,
which is XORed in; or it shares it with none, and the word goes through as UNCORRECTABLE (R82).
-/

namespace Sys2Proof.Machine

/-- The decode channel's ports with `r` driven, where the ROM holds the contents of R59 (R72). -/
def eccPorts (r : Word24) : ChannelPorts := channelPorts r (romContents (syndromeOf r))

theorem exec_ecc_eccPorts (n : Nat) {s : State} (hs : RomIntact s) :
    exec (.ecc n) s = .next (s.setChannel (eccPorts (trunc24 n))) :=
  exec_ecc_intact n hs

theorem exec_ecc_toNat (r : Word24) {s : State} (hs : RomIntact s) :
    exec (.ecc r.toNat) s = .next (s.setChannel (eccPorts r)) := by
  rw [exec_ecc_eccPorts _ hs, trunc24_toNat]

/-- A word in the coset of a pattern of weight at most 3 has that pattern looked up. -/
theorem eccPorts_of_leader {r e : Word24} (he : popcount e ≤ 3) (h : syndromeOf r = syndromeOf e) :
    eccPorts r = channelPorts r (joinEntry 0#1 e) := by
  rw [eccPorts, h, Laws.romContents_syndromeOf he]

/-- A word in the coset of a pattern of weight at most 3 is corrected by that pattern (R76). -/
theorem eccPorts_corrects {r e : Word24} (he : popcount e ≤ 3) (h : syndromeOf r = syndromeOf e) :
    (eccPorts r).okOut = 1#1 ∧ (eccPorts r).correctedOut = r ^^^ e ∧
      (eccPorts r).statusOut = outcomeStatus 0#1 e ∧
      (eccPorts r).msgOut = extractMsg (r ^^^ e) := by
  rw [eccPorts_of_leader he h]
  simp

/-- A word in the coset of an UNCORRECTABLE entry has the sentinel looked up. -/
theorem eccPorts_of_uncorrectable {r : Word24} (hu : entryU (romContents (syndromeOf r)) = 1#1) :
    eccPorts r = channelPorts r sentinel := by
  rw [eccPorts, romContents_eq_sentinel (entryU_romContents_eq_one_iff.mp hu)]

theorem syndromeOf_ne_zero_of_uncorrectable {r : Word24}
    (hu : entryU (romContents (syndromeOf r)) = 1#1) : syndromeOf r ≠ 0#12 := by
  intro hzero
  obtain ⟨hu0, -⟩ := (entry_clean_iff _).mpr hzero
  rw [hu0] at hu
  exact absurd hu (by decide)

/-- At an UNCORRECTABLE entry the received word goes through, and its syndrome is not the zero of a codeword (R82). -/
theorem eccPorts_fails {r : Word24} (hu : entryU (romContents (syndromeOf r)) = 1#1) :
    (eccPorts r).okOut = 0#1 ∧ (eccPorts r).correctedOut = r ∧
      (eccPorts r).statusOut = 0b10#2 ∧ (eccPorts r).syndromeOut ≠ 0#12 ∧
      (eccPorts r).msgOut = mPart r := by
  rw [eccPorts_of_uncorrectable hu]
  exact ⟨rfl, rfl, rfl, syndromeOf_ne_zero_of_uncorrectable hu, rfl⟩

theorem outcomeOk_eq_zero_iff {u : Bit} : outcomeOk u = 0#1 ↔ u = 1#1 := by
  obtain rfl | rfl := bit_cases u <;> decide

theorem outcomeOk_eq_one_iff {u : Bit} : outcomeOk u = 1#1 ↔ u = 0#1 := by
  obtain rfl | rfl := bit_cases u <;> decide

/-- `ok_out` = 0 stands for an UNCORRECTABLE entry (R67). -/
theorem eccPorts_okOut_eq_zero_iff {r : Word24} :
    (eccPorts r).okOut = 0#1 ↔ entryU (romContents (syndromeOf r)) = 1#1 :=
  outcomeOk_eq_zero_iff

/-- `ok_out` = 1 stands for a coset with a pattern of weight at most 3 (R59). -/
theorem eccPorts_okOut_eq_one_iff {r : Word24} :
    (eccPorts r).okOut = 1#1 ↔ ∃ e, popcount e ≤ 3 ∧ syndromeOf e = syndromeOf r :=
  outcomeOk_eq_one_iff.trans entryU_romContents_eq_zero_iff

end Sys2Proof.Machine
end

section
/-!
PROOFS. ECC as the composition of the units (45_ecc_pipeline.md R72, R73), and the round trip of a message (R74). A unit
driven with the value on another unit's port takes that value as it is: its mask does nothing.
-/

namespace Sys2Proof.Machine

theorem exec_lookup_toNat (i : Syn) {s : State} (hs : RomIntact s) :
    exec (.lookup i.toNat) s = .next (s.setLookup (lookupPorts i (romContents i))) := by
  rw [exec_lookup_intact _ hs, trunc12_toNat]

theorem exec_correct_toNat (u : Bit) (e : Word24) (n : Nat) (s : State) :
    exec (.correct u e.toNat n) s = .next (s.setCorrector (correctorPorts (trunc24 n) u e)) := by
  rw [exec_correct, trunc24_toNat]

theorem exec_extract_toNat (w : Word24) (s : State) :
    exec (.extract w.toNat) s = .next (s.setExtractor (extractorPorts w)) := by
  rw [exec_extract, trunc24_toNat]

/-- Settles O16: each unit is driven with the port that the net before it carries, and on failure the corrected word
is the received one. -/
theorem eccComposesTheUnits : Obligations.EccComposesTheUnits := by
  intro n s hs
  refine ⟨_, _, _, _, _, exec_ecc_eccPorts n hs, exec_syndrome n s, exec_lookup_toNat _ hs,
    exec_correct_toNat _ _ n s, exec_extract_toNat _ s, rfl, rfl, rfl, rfl, rfl, rfl, rfl, rfl,
    fun hok => ?_, setChannel_frame s _⟩
  obtain ⟨-, -, -, -, hmsg⟩ := eccPorts_fails (eccPorts_okOut_eq_zero_iff.mp hok)
  exact hmsg

/-- Settles O18: the message is the m-part of its codeword. -/
theorem extractUndoesEncode : Obligations.ExtractUndoesEncode := by
  intro m s
  refine ⟨_, _, exec_encode _ s, exec_extract_toNat _ _, ?_⟩
  calc extractMsg (encodeWord (trunc12 m.toNat))
      = trunc12 m.toNat := mPart_encodeWord _
    _ = m := trunc12_toNat m

end Sys2Proof.Machine
end

section
/-!
PROOFS. The laws of the code (45_ecc_pipeline.md section 2), from the two cases of ECC and the distance of the codewords.
-/

namespace Sys2Proof.Machine

/-- Different messages have different codewords, as each is the m-part of its own. -/
theorem encodeWord_injective : Function.Injective encodeWord :=
  Function.LeftInverse.injective mPart_encodeWord

/-- XORing a pattern into a word a second time takes it out. -/
theorem xor_xor_cancel_right {w : Nat} (a b : BitVec w) : a ^^^ b ^^^ b = a := by
  rw [BitVec.xor_assoc, BitVec.xor_self, BitVec.xor_zero]

/-- What a word was changed by is its difference from the changed word. -/
theorem xor_xor_cancel_left {w : Nat} (a b : BitVec w) : a ^^^ (a ^^^ b) = b := by
  rw [← BitVec.xor_assoc, BitVec.xor_self, BitVec.zero_xor]

theorem syndromeOf_xor_encodeWord (r : Word24) (m : Msg) :
    syndromeOf (r ^^^ encodeWord m) = syndromeOf r := by
  rw [BitVec.xor_comm, syndromeOf_encodeWord_xor]

/-- Whatever is looked up, a word XORed into the received word comes out in the corrected word. -/
theorem correctedWord_xor (r c : Word24) (u : Bit) (e : Word24) :
    correctedWord (r ^^^ c) u e = correctedWord r u e ^^^ c := by
  obtain rfl | rfl := bit_cases u
  · rw [correctedWord_zero, correctedWord_zero, BitVec.xor_assoc, BitVec.xor_assoc,
      BitVec.xor_comm c]
  · rw [correctedWord_one, correctedWord_one]

theorem extractMsg_xor_encodeWord (w : Word24) (m : Msg) :
    extractMsg (w ^^^ encodeWord m) = extractMsg w ^^^ m := by
  have hm : extractMsg (encodeWord m) = m := mPart_encodeWord m
  calc extractMsg (w ^^^ encodeWord m)
      = extractMsg w ^^^ extractMsg (encodeWord m) := BitVec.extractLsb'_xor ..
    _ = extractMsg w ^^^ m := by rw [hm]

/-- A codeword within distance 3 of a word is the word with the pattern of its coset XORed in: the difference of the two is
a low-weight pattern of that coset, which has only one (R80). -/
theorem encodeWord_eq_of_near {r e : Word24} {m : Msg} (he : popcount e ≤ 3)
    (hs : syndromeOf e = syndromeOf r) (hm : popcount (r ^^^ encodeWord m) ≤ 3) :
    encodeWord m = r ^^^ e := by
  have hpattern : r ^^^ encodeWord m = e :=
    eq_of_syndromeOf_eq hm he ((syndromeOf_xor_encodeWord r m).trans hs.symm)
  rw [← hpattern, xor_xor_cancel_left]

/-- Settles O19: two codewords lie in one coset. -/
theorem minimumDistanceIsEight : Obligations.MinimumDistanceIsEight := by
  refine ⟨fun a b hne => ?_, by decide⟩
  exact eight_le_popcount_xor ((syndromeOf_encodeWord a).trans (syndromeOf_encodeWord b).symm)
    (encodeWord_injective.ne hne)

/-- Settles O20: the error is the pattern of its own coset, and XORing it in takes it out. -/
theorem everyErrorUpToWeightThreeIsCorrected : Obligations.EveryErrorUpToWeightThreeIsCorrected := by
  intro m e s hs he
  obtain ⟨hok, hword, hstatus, hmsg⟩ := eccPorts_corrects he (syndromeOf_encodeWord_xor m e)
  rw [xor_xor_cancel_right] at hword hmsg
  refine ⟨_, exec_ecc_toNat _ hs, hok, hword, hmsg.trans (mPart_encodeWord m), ?_, fun hne => ?_,
    syndromeOf_encodeWord_xor m e⟩
  · rintro rfl
    exact hstatus
  · exact hstatus.trans (outcomeStatus_corrected hne)

/-- Settles O21: the coset of a pattern of weight 4 is UNCORRECTABLE. -/
theorem everyErrorOfWeightFourIsDetected : Obligations.EveryErrorOfWeightFourIsDetected := by
  intro m e s hs he
  have hu : entryU (romContents (syndromeOf (encodeWord m ^^^ e))) = 1#1 := by
    rw [syndromeOf_encodeWord_xor, entryU_of_weight_four he]
  obtain ⟨hok, hword, hstatus, hsyn, -⟩ := eccPorts_fails hu
  exact ⟨_, exec_ecc_toNat _ hs, hok, hstatus, hsyn, hword⟩

/-- Settles O22: an intact ROM answers every read, and its entries of both kinds are counted. -/
theorem romIsTotalAndPartitioned : Obligations.RomIsTotalAndPartitioned := by
  refine ⟨fun _ s hst => memRead_intact hst s, ?_, ?_⟩
  · rw [← countP_correctable, ← countP_romIndices]
  · rw [← countP_uncorrectable, ← countP_romIndices]

/-- Settles O24: with ok the pattern of the coset leads to the codeword; without it the coset has no pattern of weight
at most 3, but a codeword is within 4. -/
theorem okMeansTheOnlyCodewordWithinThree : Obligations.OkMeansTheOnlyCodewordWithinThree := by
  intro n s hs
  refine ⟨_, exec_ecc_eccPorts n hs, fun hok => ?_, fun hok => ?_⟩
  · obtain ⟨e, he, hsyn⟩ := eccPorts_okOut_eq_one_iff.mp hok
    obtain ⟨-, hword, -, -⟩ := eccPorts_corrects he hsyn.symm
    rw [State.setChannel_channel, hword]
    exact ⟨syndromeOf_xor_eq_zero_iff.mpr hsyn.symm,
      (congrArg popcount (xor_xor_cancel_left _ e)).trans_le he,
      fun m => encodeWord_eq_of_near he hsyn⟩
  · have hfar := four_le_distance (eccPorts_okOut_eq_zero_iff.mp hok)
    obtain ⟨m, hm⟩ := exists_codeword_within_four (trunc24 n)
    exact ⟨hfar, m, hm.antisymm (hfar m)⟩

/-- Settles O25: a codeword does not change the syndrome, so the same entry is looked up. -/
theorem eccIsInvariantOnCosets : Obligations.EccIsInvariantOnCosets := by
  intro m r s hs
  have hports : eccPorts (r ^^^ encodeWord m) =
      channelPorts (r ^^^ encodeWord m) (romContents (syndromeOf r)) := by
    rw [eccPorts, syndromeOf_xor_encodeWord]
  refine ⟨_, _, exec_ecc_toNat r hs, exec_ecc_toNat _ hs, ?_⟩
  rw [State.setChannel_channel, State.setChannel_channel, hports]
  refine ⟨syndromeOf_xor_encodeWord r m, rfl, rfl, rfl, rfl, correctedWord_xor .., ?_⟩
  rw [channelPorts_msgOut, correctedWord_xor, extractMsg_xor_encodeWord]
  rfl

/-- Settles O26: `ok_out` = 0 means an UNCORRECTABLE entry, as at the syndrome of 0x00000F, of weight 4. -/
theorem failureReturnsTheReceivedWord : Obligations.FailureReturnsTheReceivedWord := by
  refine ⟨fun n s hs => ⟨_, exec_ecc_eccPorts n hs, fun hok => ?_⟩,
    fun s hs => ⟨_, exec_ecc_eccPorts _ hs, ?_⟩⟩
  · obtain ⟨-, hword, hstatus, hsyn, -⟩ := eccPorts_fails (eccPorts_okOut_eq_zero_iff.mp hok)
    exact ⟨hword, hstatus, hsyn⟩
  · have hweight : popcount (trunc24 0x00000F) = 4 := by decide
    exact eccPorts_okOut_eq_zero_iff.mpr (entryU_of_weight_four hweight)

end Sys2Proof.Machine
end

section
/-!
PROOFS. The exceptions (60_exceptions.md): there is none (R83). A step is no operation at all or one operation on the ROM
of its start, so the completion of every operation on the hardware's ROM gives that of every step.
-/

namespace Sys2Proof.Machine

theorem step_of_pending_nil {s : State} (h : s.pending = []) : step s = .next s := by
  rw [step, h]

theorem step_of_pending_cons {s : State} {x : Transaction} {rest : List Transaction}
    (h : s.pending = x :: rest) : step s = exec (decode x) (s.setPending rest) := by
  rw [step, h]

/-- The hardware's ROM stays in place when the host's list changes, so the presented operation completes on it. -/
theorem stepsOn_of_romIntact {s : State} (hs : RomIntact s) : StepsOn s := by
  cases hp : s.pending with
  | nil => exact ⟨s, step_of_pending_nil hp⟩
  | cons x rest =>
    have hrest : RomIntact (s.setPending rest) := (State.setPending_rom s rest).trans hs
    exact ⟨_, (step_of_pending_cons hp).trans (exec_intact (decode x) hrest)⟩

/-- Settles O32: on the hardware's ROM each operation ends in `execResult`, and a step runs at most one operation. -/
theorem noOperationStopsTheMachine : Obligations.NoOperationStopsTheMachine :=
  ⟨fun i s hs => ⟨execResult i s, exec_intact i hs⟩, fun _ hs => stepsOn_of_romIntact hs⟩

end Sys2Proof.Machine
end

section
/-!
PROOFS. The ports (10_state.md section 5): at reset and after every step each output is the function of its unit's inputs
(R11, R29).
-/

namespace Sys2Proof.Machine

/-- An operation drives its own unit's ports together, inputs and outputs, and leaves the others as they were. -/
theorem execResult_portsConsistent (i : Instr) {s : State} (hs : PortsConsistent s) :
    PortsConsistent (execResult i s) := by
  obtain ⟨hencoder, hsyndrome, hlookup, hcorrector, hextractor, hchannel⟩ := hs
  cases i with
  | encode n => exact ⟨rfl, hsyndrome, hlookup, hcorrector, hextractor, hchannel⟩
  | syndrome n => exact ⟨hencoder, rfl, hlookup, hcorrector, hextractor, hchannel⟩
  | lookup n => exact ⟨hencoder, hsyndrome, rfl, hcorrector, hextractor, hchannel⟩
  | correct u e r => exact ⟨hencoder, hsyndrome, hlookup, rfl, hextractor, hchannel⟩
  | extract n => exact ⟨hencoder, hsyndrome, hlookup, hcorrector, rfl, hchannel⟩
  | ecc n => exact ⟨hencoder, hsyndrome, hlookup, hcorrector, hextractor, rfl⟩

/-- The host's list is no port. -/
theorem setPending_portsConsistent (ts : List Transaction) {s : State} (hs : PortsConsistent s) :
    PortsConsistent (s.setPending ts) := hs

/-- Settles O35: a step is no operation at all or one operation, and either keeps the ports consistent. -/
theorem stepKeepsOutputsFunctionsOfInputs : Obligations.StepKeepsOutputsFunctionsOfInputs := by
  intro s t hs h
  obtain ⟨-, rfl⟩ | ⟨x, rest, -, hx⟩ := step_cases h
  · exact hs
  · rw [eq_execResult_of_exec hx]
    exact execResult_portsConsistent _ (setPending_portsConsistent rest hs)

@[simp] theorem encodeWord_zero : encodeWord 0#12 = 0#24 := by
  rw [encodeWord, vecMul_zero]
  rfl

@[simp] theorem syndromeOf_zero : syndromeOf 0#24 = 0#12 := vecMul_zero hRow 12

/-- With every input 0 the outputs at reset are those of the zero word, which is a codeword with the entry of index 0. -/
theorem reset_portsConsistent : PortsConsistent State.reset := by
  refine ⟨?_, ?_, ?_, rfl, rfl, ?_⟩
  · rw [encoderPorts, State.reset, encodeWord_zero]
  · rw [syndromePorts, State.reset, syndromeOf_zero]
  · rw [State.reset, romContents_zero]
    rfl
  · rw [channelPorts, State.reset, syndromeOf_zero, romContents_zero]
    rfl

/-- Settles O36: reset lists no ROM entry and no transaction, and its ports are consistent. -/
theorem resetMeetsTheSafeState : Obligations.ResetMeetsTheSafeState :=
  ⟨⟨rfl, reset_portsConsistent⟩, Memory.wf_nil,
    ⟨rfl, rfl, rfl, rfl, rfl, rfl, rfl, rfl⟩, rfl⟩

end Sys2Proof.Machine
end

section
/-!
PROOFS. The encoding (30_encoding.md R49): the fields of a unit's input vector, cut out and put together again.
-/

namespace Sys2Proof

/-- A field that is the whole vector gives the operand back where it fits its port. -/
theorem bitField_whole {w n : Nat} (h : fitsPort w n = true) : bitField 0 w n = n :=
  lowBits_eq (fitsPort_iff.mp h)

/-- The three fields of CORRECT's input vector (R49), cut out of their concatenation. -/
theorem bitField_correct_vector {u e r : Nat} (hu : u < 2 ^ 1) (he : e < 2 ^ 24) (hr : r < 2 ^ 24) :
    bitField 48 1 (u * 2 ^ 48 + e * 2 ^ 24 + r) = u ∧
    bitField 24 24 (u * 2 ^ 48 + e * 2 ^ 24 + r) = e ∧
    bitField 0 24 (u * 2 ^ 48 + e * 2 ^ 24 + r) = r := by
  simp only [bitField_eq]
  omega

/-- The three fields of CORRECT's input vector, put together again. -/
theorem correct_vector_bitField (v : Nat) :
    bitField 48 1 v * 2 ^ 48 + bitField 24 24 v * 2 ^ 24 + bitField 0 24 v = v % 2 ^ 49 := by
  simp only [bitField_eq]
  omega

/-- Settles O40: five vectors are one operand each, and CORRECT's has three fields that do not overlap. -/
theorem decodeUndoesEncode : Obligations.DecodeUndoesEncode := by
  intro i hi
  cases i with
  | encode m => exact congrArg Instr.encode (bitField_whole hi)
  | syndrome r => exact congrArg Instr.syndrome (bitField_whole hi)
  | lookup s => exact congrArg Instr.lookup (bitField_whole hi)
  | correct u e r =>
    rw [Instr.wellFormed, Bool.and_eq_true, fitsPort_iff, fitsPort_iff] at hi
    obtain ⟨he, hr⟩ := hi
    obtain ⟨hfu, hfe, hfr⟩ := bitField_correct_vector u.isLt he hr
    calc decode (encode (.correct u e r))
        = .correct (BitVec.ofNat 1 u.toNat) e r := congr (congrArg₂ _ (congrArg _ hfu) hfe) hfr
      _ = .correct u e r := by rw [BitVec.ofNat_toNat, BitVec.setWidth_eq]
  | extract w => exact congrArg Instr.extract (bitField_whole hi)
  | ecc r => exact congrArg Instr.ecc (bitField_whole hi)

/-- The unit selects its own operation, whatever the vector (R49, R50). -/
theorem coreUnit_decode (t : Transaction) : (decode t).coreUnit = t.unit := by
  obtain ⟨unit, v⟩ := t
  cases unit <;> rfl

theorem fitsPort_bitField (lo w n : Nat) : fitsPort w (bitField lo w n) = true :=
  fitsPort_iff.mpr (bitField_lt lo w n)

/-- Each operand is a field as wide as its port. -/
theorem wellFormed_decode (t : Transaction) : (decode t).wellFormed = true := by
  obtain ⟨unit, v⟩ := t
  cases unit with
  | errorCorrector =>
    exact Bool.and_eq_true_iff.mpr ⟨fitsPort_bitField 24 24 v, fitsPort_bitField 0 24 v⟩
  | _ => exact fitsPort_bitField 0 _ v

/-- The vector of the decoded operation has the bits of the given one within the unit's width. -/
theorem vector_decode (t : Transaction) : (decode t).vector = t.vector % 2 ^ t.unit.width := by
  obtain ⟨unit, v⟩ := t
  cases unit with
  | errorCorrector =>
    have hflag : (BitVec.ofNat 1 (bitField 48 1 v)).toNat = bitField 48 1 v := by
      rw [BitVec.toNat_ofNat, Nat.mod_eq_of_lt (bitField_lt 48 1 v)]
    calc (decode ⟨.errorCorrector, v⟩).vector
        = bitField 48 1 v * 2 ^ 48 + bitField 24 24 v * 2 ^ 24 + bitField 0 24 v := by
          rw [decode, Instr.vector, hflag]
      _ = v % 2 ^ 49 := correct_vector_bitField v
  | _ => rfl

/-- Settles O41: the unit, the fields' widths and the vector of the decoded operation, each for every vector. -/
theorem encodeUndoesDecode : Obligations.EncodeUndoesDecode := by
  intro t
  refine ⟨coreUnit_decode t, wellFormed_decode t, ?_⟩
  rw [encode, coreUnit_decode, vector_decode]

/-- Settles O42: the decoder is evaluated on each vector. -/
theorem writtenOutVectorsDecode : Obligations.WrittenOutVectorsDecode := by
  unfold Obligations.WrittenOutVectorsDecode
  decide

end Sys2Proof
end

section
/-!
PROOFS. The step (70_reset_and_hazards.md R98): which operation it evaluates, and in which state.
-/

namespace Sys2Proof.Machine

/-- Settles O38: the step's two cases, and the fields of the decoder fit their ports. -/
theorem stepEvaluatesTheDecodedTransaction : Obligations.StepEvaluatesTheDecodedTransaction :=
  ⟨fun _ => step_of_pending_nil, fun _ x _ h => ⟨wellFormed_decode x, step_of_pending_cons h⟩⟩

/-- A table word is read as a transaction of the unit that its width picks. -/
theorem exists_unit_of_decodeTableWord {nbits w : Nat} {i : Instr}
    (h : decodeTableWord nbits w = some i) : ∃ u, unitOfWidth nbits = some u ∧ decode ⟨u, w⟩ = i := by
  unfold decodeTableWord decodeVector at h
  cases hu : unitOfWidth nbits with
  | none => simp [hu] at h
  | some u => exact ⟨u, rfl, by simpa [hu] using h⟩

/-- Settles O39: the presented word heads the host's list, and once it is taken the list is the old one. -/
theorem presentedWordIsEvaluatedNext : Obligations.PresentedWordIsEvaluatedNext := by
  intro s nbits w i h
  obtain ⟨u, hu, rfl⟩ := exists_unit_of_decodeTableWord h
  have hpresented : s.withFetchWord nbits w = s.setPending (⟨u, w⟩ :: s.pending) := by
    rw [State.withFetchWord, hu]
  rw [hpresented, step_of_pending_cons (State.setPending_pending s _)]
  rfl

end Sys2Proof.Machine
end

section
/-!
PROOFS. One evaluation after another (20_memory.md sections 3 and 4): no operation affects whether another completes, as
both read one ROM that neither writes (R36), nor what it leaves on its ports (R42).
-/

namespace Sys2Proof.Machine

/-- Settles O31: an operation that completes ends in `execResult`, which keeps the frame. -/
theorem everyOperationKeepsItsFrame : Obligations.EveryOperationKeepsItsFrame := by
  intro i s t h
  rw [eq_execResult_of_exec h]
  exact execResult_frame i s

/-- Whether an operation completes is decided by the ROM alone. -/
theorem exec_of_rom_eq {i : Instr} {s s' t : State} (hrom : s'.rom = s.rom)
    (h : exec i s = .next t) : exec i s' = .next (execResult i s') := by
  have hread {a : Syn} {x : LutWord} (hx : memRead s.rom a = .next x) :
      memRead s'.rom a = .next (romContents a) := by rw [hrom, hx, memRead_next hx]
  cases i with
  | encode n => exact exec_encode n s'
  | syndrome n => exact exec_syndrome n s'
  | lookup n =>
    rw [exec_lookup] at h
    split at h
    · next x hx => rw [exec_lookup, hread hx]; rfl
    · cases h
    · cases h
  | correct u e r => exact exec_correct u e r s'
  | extract n => exact exec_extract n s'
  | ecc n =>
    rw [exec_ecc] at h
    split at h
    · next x hx => rw [exec_ecc, hread hx]; rfl
    · cases h
    · cases h

/-- An operation completes after any other that has completed. -/
theorem exec_after_exec {i j : Instr} {s a b : State} (hi : exec i s = .next a)
    (hj : exec j s = .next b) : exec j a = .next (execResult j (execResult i s)) := by
  rw [exec_of_rom_eq (exec_rom hi) hj, eq_execResult_of_exec hi]

/-- The ports of an operation's unit hold the second time what they held the first. -/
theorem execResult_idem (i : Instr) (s : State) :
    execResult i (execResult i s) = execResult i s := by
  cases i <;> rfl

/-- Operations of different units write different ports. -/
theorem execResult_comm {i j : Instr} (s : State) (h : i.coreUnit ≠ j.coreUnit) :
    execResult j (execResult i s) = execResult i (execResult j s) := by
  cases i with
  | encode n => cases j with
    | encode k => exact absurd rfl h
    | _ => rfl
  | syndrome n => cases j with
    | syndrome k => exact absurd rfl h
    | _ => rfl
  | lookup n => cases j with
    | lookup k => exact absurd rfl h
    | _ => rfl
  | correct u e r => cases j with
    | correct v f k => exact absurd rfl h
    | _ => rfl
  | extract n => cases j with
    | extract k => exact absurd rfl h
    | _ => rfl
  | ecc n => cases j with
    | ecc k => exact absurd rfl h
    | _ => rfl

/-- Settles O29: the operation completes again, with the ports it has left. -/
theorem repeatedEvaluationChangesNothing : Obligations.RepeatedEvaluationChangesNothing := by
  intro i s t h
  rw [exec_after_exec h h, execResult_idem, eq_execResult_of_exec h]

/-- Settles O30: each operation completes after the other, and they write different ports. -/
theorem evaluationsOnDifferentUnitsCommute : Obligations.EvaluationsOnDifferentUnitsCommute := by
  intro i j s a b hunit ha hb
  refine ⟨_, exec_after_exec ha hb, ?_⟩
  rw [exec_after_exec hb ha, execResult_comm s hunit]

end Sys2Proof.Machine
end

section
/-!
PROOFS. A ROM that is not the hardware's (93_implementation_defined.md X1 and X2, 70_reset_and_hazards.md R97): what a read
of a foreign word ends in, LOOKUP and ECC end in too (log entry 2).
-/

namespace Sys2Proof.Machine

/-- A listed reserved word faults, and any other listed word that is not the hardware's is refused. -/
theorem memRead_foreign {rom : List RomCell} {a : Syn} {x : LutWord}
    (hlisted : romListed rom a.toNat = some x) (hne : x ≠ romContents a) :
    memRead rom a =
      if isReservedEntry x then .fault .romReservedEntry else .refused .romOutsideSpec := by
  simp only [memRead, hlisted, if_neg hne]

/-- Settles O34: both operations end as their read of the ROM ends. -/
theorem foreignRomEntriesAreNeverValues : Obligations.ForeignRomEntriesAreNeverValues := by
  intro n s x
  refine ⟨fun hlisted hne => ?_, fun hlisted hne => ?_⟩
  · rw [exec_lookup, trunc12, memRead_foreign hlisted hne]
    exact ⟨fun hres => by rw [hres]; rfl, fun hres => by rw [hres]; rfl⟩
  · rw [exec_ecc, trunc24, memRead_foreign hlisted hne]
    exact ⟨fun hres => by rw [hres]; rfl, fun hres => by rw [hres]; rfl⟩

end Sys2Proof.Machine
end

section
/-!
PROOFS. The code as a subspace (40_encoder.md, the properties of ENCODE): linear, self-dual, and with every weight a multiple
of 4. The last two hold of the rows of G and pass to their sums.
-/

namespace Sys2Proof.Machine

theorem encodeWord_xor (a b : Msg) : encodeWord (a ^^^ b) = encodeWord a ^^^ encodeWord b := by
  rw [encodeWord, vecMul_xor, encodeWord, encodeWord, joinWord, joinWord, joinWord,
    BitVec.xor_append]

/-- The dot product is zero where the two words share an even number of ones. -/
theorem dot_eq_false_iff {w : Nat} {a b : BitVec w} :
    dot a b = false ↔ popcount (a &&& b) % 2 = 0 := by
  rw [dot, parity, beq_eq_false_iff_ne]
  omega

/-- A row of G meets itself in an even number of ones, and another row in those their masks of B share, which are evenly
many too. -/
theorem dot_gRow_gRow {i k : Nat} (hi : i < 12) (hk : k < 12) : dot (gRow i) (gRow k) = false := by
  by_cases h : i = k
  · subst h
    rw [dot_self, parity_gRow hi]
  · rw [gRow_eq, gRow_eq, dot_append, dot_rowmaskB_of_ne i hi k hk h, dot_twoPow _ hk,
      BitVec.getLsbD_twoPow]
    simp [h]

/-- A word orthogonal to the rows of G is orthogonal to their sums. -/
theorem dot_gRowSum {v : Word24} (hv : ∀ i < 12, dot (gRow i) v = false) (m : Msg) {n : Nat}
    (hn : n ≤ 12) : dot (gRowSum m n) v = false := by
  induction n with
  | zero => exact dot_zero_left v
  | succ n ih =>
    rw [gRowSum_succ]
    split
    · rw [dot_xor_left, ih (by omega), hv n (by omega), Bool.xor_false]
    · exact ih (by omega)

theorem dot_gRow_encodeWord {i : Nat} (hi : i < 12) (m : Msg) :
    dot (gRow i) (encodeWord m) = false := by
  rw [encodeWord_eq_gRowSum, dot_comm]
  exact dot_gRowSum (fun _ hk => dot_gRow_gRow hk hi) m le_rfl

/-- The code is self-dual: any two codewords share an even number of ones. -/
theorem dot_encodeWord_encodeWord (a b : Msg) : dot (encodeWord a) (encodeWord b) = false := by
  rw [encodeWord_eq_gRowSum a]
  exact dot_gRowSum (fun _ hi => dot_gRow_encodeWord hi b) a le_rfl

/-- Settles O2: items 1 and 3 by the m-part, items 2 and 6 by the linearity of the matrix product, item 5 by the rows
of G. -/
theorem encodeIsSystematicLinearSelfDual : Obligations.EncodeIsSystematicLinearSelfDual :=
  ⟨mPart_encodeWord, encodeWord_xor, fun _ _ h => encodeWord_injective h,
    dot_encodeWord_encodeWord, syndromeOf_encodeWord⟩

/-- A row of G has one bit more than its mask of B: 12 in the last row and 8 in the others. -/
theorem four_dvd_popcount_gRow {i : Nat} (hi : i < 12) : 4 ∣ popcount (gRow i) := by
  rw [gRow_eq, popcount_append, popcount_twoPow hi, popcount_rowmaskB i hi]
  split <;> decide

/-- Adding a word to an orthogonal one takes away twice an even number of ones. -/
theorem four_dvd_popcount_xor {w : Nat} {a b : BitVec w} (ha : 4 ∣ popcount a)
    (hb : 4 ∣ popcount b) (hab : dot a b = false) : 4 ∣ popcount (a ^^^ b) := by
  have hadd := popcount_xor_add a b
  have heven := dot_eq_false_iff.mp hab
  omega

theorem four_dvd_popcount_gRowSum (m : Msg) {n : Nat} (hn : n ≤ 12) :
    4 ∣ popcount (gRowSum m n) := by
  induction n with
  | zero =>
    have hzero : gRowSum m 0 = 0#24 := rfl
    simp [hzero]
  | succ n ih =>
    rw [gRowSum_succ]
    split
    · exact four_dvd_popcount_xor (ih (by omega)) (four_dvd_popcount_gRow (by omega))
        (dot_gRowSum (fun _ hi => dot_gRow_gRow hi (by omega)) m (by omega))
    · exact ih (by omega)

/-- Every codeword has a weight that is a multiple of 4. -/
theorem four_dvd_popcount_encodeWord (m : Msg) : 4 ∣ popcount (encodeWord m) := by
  rw [encodeWord_eq_gRowSum]
  exact four_dvd_popcount_gRowSum m le_rfl

theorem four_dvd_popcount_of_syndromeOf_eq_zero {c : Word24} (h : syndromeOf c = 0#12) :
    4 ∣ popcount c := by
  rw [syndromeOf_eq_zero_iff.mp h]
  exact four_dvd_popcount_encodeWord _

theorem eight_le_popcount_encodeWord {m : Msg} (hm : m ≠ 0#12) : 8 ≤ popcount (encodeWord m) := by
  refine eight_le_popcount_of_syndromeOf_eq_zero (syndromeOf_encodeWord m) ?_
  rw [← encodeWord_zero]
  exact encodeWord_injective.ne hm

end Sys2Proof.Machine
end

section
/-!
PROOFS. Errors beyond the guarantee (45_ecc_pipeline.md section 2, R79), of weight 5 to 8. Where such an error shares its
coset with a pattern of weight at most 3, the two differ by a non-zero codeword of weight at most 11, which is 8.
-/

namespace Sys2Proof.Machine

/-- An error of weight 5 to 8 and the low-weight pattern of its coset differ by a codeword of weight 8. -/
theorem popcount_xor_eq_eight {e a : Word24} (he : 5 ≤ popcount e) (he' : popcount e ≤ 8)
    (ha : popcount a ≤ 3) (hs : syndromeOf a = syndromeOf e) : popcount (e ^^^ a) = 8 := by
  have hne : e ≠ a := by
    rintro rfl
    omega
  have hfour := four_dvd_popcount_of_syndromeOf_eq_zero (syndromeOf_xor_eq_zero_iff.mpr hs.symm)
  have hmin := eight_le_popcount_xor hs.symm hne
  have hle := popcount_xor_le e a
  omega

/-- An error of odd weight shares its coset with no pattern of weight 4, so with one of weight at most 3. -/
theorem exists_leader_of_odd {e : Word24} (hodd : popcount e % 2 = 1) :
    ∃ a, popcount a ≤ 3 ∧ syndromeOf a = syndromeOf e := by
  obtain ⟨a, ha, hs⟩ := exists_leader (syndromeOf e)
  have heven := popcount_even_of_syndromeOf_eq_zero (syndromeOf_xor_eq_zero_iff.mpr hs)
  have hadd := popcount_xor_add a e
  exact ⟨a, by omega, hs⟩

/-- Where an error of weight 5 to 8 is not detected, it is miscorrected to a codeword at distance 8. -/
theorem eccPorts_miscorrects {m : Msg} {e : Word24} (he : 5 ≤ popcount e) (he' : popcount e ≤ 8)
    (hok : (eccPorts (encodeWord m ^^^ e)).okOut = 1#1) :
    (eccPorts (encodeWord m ^^^ e)).correctedOut ≠ encodeWord m ∧
      syndromeOf ((eccPorts (encodeWord m ^^^ e)).correctedOut ^^^ encodeWord m) = 0#12 ∧
      popcount ((eccPorts (encodeWord m ^^^ e)).correctedOut ^^^ encodeWord m) = 8 := by
  obtain ⟨a, ha, hs⟩ := eccPorts_okOut_eq_one_iff.mp hok
  obtain ⟨-, hword, -, -⟩ := eccPorts_corrects ha hs.symm
  rw [syndromeOf_encodeWord_xor] at hs
  have hdiff : (eccPorts (encodeWord m ^^^ e)).correctedOut ^^^ encodeWord m = e ^^^ a := by
    rw [hword, BitVec.xor_assoc (encodeWord m), BitVec.xor_comm (encodeWord m),
      xor_xor_cancel_right]
  have hweight := popcount_xor_eq_eight he he' ha hs
  rw [hdiff]
  refine ⟨fun heq => ?_, syndromeOf_xor_eq_zero_iff.mpr hs.symm, hweight⟩
  rw [← hdiff, heq, BitVec.xor_self, popcount_zero] at hweight
  omega

/-- A word of syndrome zero is the codeword of some message. -/
theorem syndromeOf_eq_zero_iff_exists {e : Word24} :
    syndromeOf e = 0#12 ↔ ∃ k : Msg, e = encodeWord k := by
  refine ⟨fun h => ⟨mPart e, syndromeOf_eq_zero_iff.mp h⟩, ?_⟩
  rintro ⟨k, rfl⟩
  exact syndromeOf_encodeWord k

/-- CLEAN is reported exactly where the error is itself a codeword. -/
theorem eccPorts_clean_iff (m : Msg) (e : Word24) :
    (eccPorts (encodeWord m ^^^ e)).statusOut = 0b00#2 ↔ ∃ k : Msg, e = encodeWord k := by
  rw [← syndromeOf_eq_zero_iff_exists, ← syndromeOf_encodeWord_xor m e, ← entry_clean_iff]
  exact outcomeStatus_eq_clean_iff _ _

/-- `ok_out` = 1 stands beside CLEAN and CORRECTED (R47). -/
theorem eccPorts_status_of_ok {r : Word24} (hok : (eccPorts r).okOut = 1#1) :
    (eccPorts r).statusOut = 0b00#2 ∨ (eccPorts r).statusOut = 0b01#2 := by
  obtain ⟨-, -, -, -, hiff⟩ := statusTable_outcome (entryU (romContents (syndromeOf r)))
    (entryE (romContents (syndromeOf r)))
  exact hiff.mp hok

/-- An error whose weight is no multiple of 4 is no codeword, so it is never reported as CLEAN. -/
theorem eccPorts_not_clean {m : Msg} {e : Word24} (he : ¬ 4 ∣ popcount e) :
    (eccPorts (encodeWord m ^^^ e)).statusOut ≠ 0b00#2 := by
  rw [Ne, eccPorts_clean_iff]
  rintro ⟨k, rfl⟩
  exact he (four_dvd_popcount_encodeWord k)

/-- Settles O23: an error of odd weight is never detected, and being no codeword it is reported as CORRECTED. -/
theorem errorsOfWeightFiveAndSevenAreMiscorrected :
    Obligations.ErrorsOfWeightFiveAndSevenAreMiscorrected := by
  intro m e s hs he
  obtain ⟨a, ha, hsyn⟩ := exists_leader_of_odd (e := e) (by omega)
  have hok : (eccPorts (encodeWord m ^^^ e)).okOut = 1#1 :=
    eccPorts_okOut_eq_one_iff.mpr ⟨a, ha, hsyn.trans (syndromeOf_encodeWord_xor m e).symm⟩
  exact ⟨_, exec_ecc_toNat _ hs, hok,
    (eccPorts_status_of_ok hok).resolve_left (eccPorts_not_clean (by omega)),
    eccPorts_miscorrects (by omega) (by omega) hok⟩

/-- Settles O47: without ok the coset is UNCORRECTABLE, and with ok the error is miscorrected. -/
theorem errorsOfWeightSixAndEightAreDetectedOrMiscorrected :
    Obligations.ErrorsOfWeightSixAndEightAreDetectedOrMiscorrected := by
  intro m e s hs he
  refine ⟨_, exec_ecc_toNat _ hs, fun hok => ?_, fun hok => ?_, eccPorts_clean_iff m e,
    fun hsix => eccPorts_not_clean (by omega)⟩
  · obtain ⟨-, -, hstatus, -, -⟩ := eccPorts_fails (eccPorts_okOut_eq_zero_iff.mp hok)
    exact hstatus
  · obtain ⟨hne, hsyn, hweight⟩ := eccPorts_miscorrects (by omega) (by omega) hok
    exact ⟨hne, hsyn, hweight, eccPorts_status_of_ok hok⟩

end Sys2Proof.Machine
end

section
/-!
PROOFS. How many codewords have each weight (40_encoder.md, the properties of ENCODE, item 4). A pattern of weight 5 differs
from one codeword of weight 8 by the low-weight pattern of its coset, so it lies in just one of them; each of them holds 56
such patterns, so there are 42504 / 56. Complementing gives the weights 16 and 24, and weight 12 has the rest.
-/

namespace Sys2Proof.Machine

/-- The messages whose codewords have weight `w`, of the 4096 words of 12 bits. -/
def messagesOfWeight (w : Nat) : Finset Msg :=
  romIndices.toFinset.filter (fun m => popcount (encodeWord m) = w)

theorem mem_messagesOfWeight {w : Nat} {m : Msg} :
    m ∈ messagesOfWeight w ↔ popcount (encodeWord m) = w := by
  rw [messagesOfWeight, Finset.mem_filter, List.mem_toFinset]
  exact and_iff_right (mem_romIndices m)

theorem countP_popcount_encodeWord (w : Nat) :
    (List.range 4096).countP (fun n => popcount (encodeWord (BitVec.ofNat 12 n)) == w) =
      (messagesOfWeight w).card := by
  rw [countP_romIndices (fun m => popcount (encodeWord m) == w), List.countP_eq_length_filter,
    ← List.toFinset_card_of_nodup (nodup_romIndices.filter _), List.toFinset_filter,
    messagesOfWeight]
  simp only [beq_iff_eq]

/-- The codeword of weight 0 is that of message 0. -/
theorem card_messagesOfWeight_zero : (messagesOfWeight 0).card = 1 := by
  refine Finset.card_eq_one.mpr ⟨0#12, Finset.ext fun m => ?_⟩
  rw [mem_messagesOfWeight, Finset.mem_singleton, popcount_eq_zero, ← encodeWord_zero,
    encodeWord_injective.eq_iff]

/-! ## The complement of a codeword -/

theorem popcount_allOnes (w : Nat) : popcount (BitVec.allOnes w) = w := by
  rw [popcount_eq_countP, List.countP_eq_length.mpr, List.length_range]
  intro i hi
  simpa using hi

theorem popcount_xor_allOnes {w : Nat} (v : BitVec w) :
    popcount (v ^^^ BitVec.allOnes w) + popcount v = w := by
  have hadd := popcount_xor_add v (BitVec.allOnes w)
  rw [BitVec.and_allOnes, popcount_allOnes] at hadd
  omega

/-- The word of 24 ones is a codeword, so the complement of a codeword is one. -/
theorem encodeWord_xor_allOnes (m : Msg) :
    encodeWord (m ^^^ BitVec.allOnes 12) = encodeWord m ^^^ BitVec.allOnes 24 := by
  have hones : encodeWord (BitVec.allOnes 12) = BitVec.allOnes 24 := by decide
  rw [encodeWord_xor, hones]

theorem popcount_encodeWord_complement (m : Msg) :
    popcount (encodeWord (m ^^^ BitVec.allOnes 12)) + popcount (encodeWord m) = 24 := by
  rw [encodeWord_xor_allOnes, popcount_xor_allOnes]

theorem complement_mem_messagesOfWeight {v w : Nat} (h : v + w = 24) {m : Msg}
    (hm : m ∈ messagesOfWeight v) : m ^^^ BitVec.allOnes 12 ∈ messagesOfWeight w := by
  rw [mem_messagesOfWeight] at hm ⊢
  have hsum := popcount_encodeWord_complement m
  omega

/-- Complementing pairs the codewords of weight v with those of weight 24 - v. -/
theorem card_messagesOfWeight_complement {v w : Nat} (h : v + w = 24) :
    (messagesOfWeight v).card = (messagesOfWeight w).card :=
  Finset.card_nbij' (· ^^^ BitVec.allOnes 12) (· ^^^ BitVec.allOnes 12)
    (fun _ => complement_mem_messagesOfWeight h)
    (fun _ => complement_mem_messagesOfWeight ((Nat.add_comm w v).trans h))
    (fun m _ => xor_xor_cancel_right m _) (fun m _ => xor_xor_cancel_right m _)

/-- The weights of the codewords: multiples of 4, none of them 4, and so none of them 20. -/
theorem popcount_encodeWord_mem (m : Msg) :
    popcount (encodeWord m) ∈ ({0, 8, 12, 16, 24} : Finset Nat) := by
  have hgap (k : Msg) : popcount (encodeWord k) = 0 ∨ 8 ≤ popcount (encodeWord k) := by
    by_cases hk : k = 0#12
    · exact .inl (by rw [hk, encodeWord_zero, popcount_zero])
    · exact .inr (eight_le_popcount_encodeWord hk)
  have hfour := four_dvd_popcount_encodeWord m
  have hsum := popcount_encodeWord_complement m
  have hm := hgap m
  have hcomplement := hgap (m ^^^ BitVec.allOnes 12)
  simp only [Finset.mem_insert, Finset.mem_singleton]
  omega

/-- The five weights share out the 4096 codewords. -/
theorem sum_card_messagesOfWeight :
    ∑ w ∈ ({0, 8, 12, 16, 24} : Finset Nat), (messagesOfWeight w).card = 4096 := by
  calc ∑ w ∈ ({0, 8, 12, 16, 24} : Finset Nat), (messagesOfWeight w).card
      = romIndices.toFinset.card :=
        (Finset.card_eq_sum_card_fiberwise fun m _ => popcount_encodeWord_mem m).symm
    _ = 4096 := by
        rw [List.toFinset_card_of_nodup nodup_romIndices, romIndices, List.length_map,
          List.length_range]

/-! ## The patterns inside a word -/

theorem mem_support {e : Word24} {i : Nat} : i ∈ support e ↔ i < 24 ∧ e.getLsbD i = true := by
  rw [support, Finset.mem_filter, Finset.mem_range]

/-- The word whose set bits are those of `S` below 24. -/
def wordWithSupport (S : Finset Nat) : Word24 := ofBits (fun i => decide (i ∈ S)) 24

theorem support_wordWithSupport {S : Finset Nat} (hS : S ⊆ Finset.range 24) :
    support (wordWithSupport S) = S := by
  ext i
  have hlt : i ∈ S → i < 24 := fun hi => Finset.mem_range.mp (hS hi)
  rw [mem_support, wordWithSupport, getLsbD_ofBits, Bool.and_eq_true, decide_eq_true_iff,
    decide_eq_true_iff]
  exact ⟨fun ⟨_, _, hi⟩ => hi, fun hi => ⟨hlt hi, hlt hi, hi⟩⟩

theorem wordWithSupport_support (e : Word24) : wordWithSupport (support e) = e := by
  apply BitVec.eq_of_getLsbD_eq
  intro i hi
  rw [wordWithSupport, getLsbD_ofBits]
  simp [mem_support, hi]

/-- A word has all its set bits in another where the other masks none of them out. -/
theorem and_eq_left_iff_support_subset {e c : Word24} : e &&& c = e ↔ support e ⊆ support c := by
  constructor
  · intro h i hi
    obtain ⟨hlt, hbit⟩ := mem_support.mp hi
    rw [← h, BitVec.getLsbD_and, Bool.and_eq_true] at hbit
    exact mem_support.mpr ⟨hlt, hbit.2⟩
  · intro h
    apply BitVec.eq_of_getLsbD_eq
    intro i hi
    rw [BitVec.getLsbD_and, Bool.and_eq_left_iff_imp]
    exact fun hbit => (mem_support.mp (h (mem_support.mpr ⟨hi, hbit⟩))).2

/-- The patterns of weight k inside a word are the choices of k of its set bits. -/
theorem card_subwords (c : Word24) (k : Nat) :
    ((wordsOfWeight k).toFinset.filter (fun e => e &&& c = e)).card = (popcount c).choose k := by
  rw [← card_support, ← Finset.card_powersetCard]
  refine Finset.card_nbij' support wordWithSupport ?_ ?_ (fun e _ => wordWithSupport_support e) ?_
  · intro e he
    obtain ⟨hk, hsub⟩ := Finset.mem_filter.mp he
    rw [List.mem_toFinset, mem_wordsOfWeight] at hk
    exact Finset.mem_powersetCard.mpr
      ⟨and_eq_left_iff_support_subset.mp hsub, (card_support e).trans hk⟩
  all_goals
    intro S hS
    obtain ⟨hsub, hk⟩ := Finset.mem_powersetCard.mp hS
    have hsupport := support_wordWithSupport (hsub.trans (Finset.filter_subset _ _))
  · refine Finset.mem_filter.mpr ⟨?_, ?_⟩
    · rw [List.mem_toFinset, mem_wordsOfWeight, ← card_support, hsupport, hk]
    · rwa [and_eq_left_iff_support_subset, hsupport]
  · exact hsupport

/-! ## The codewords of weight 8 -/

/-- A pattern lies inside a word where clearing its bits takes its whole weight away. -/
theorem and_eq_left_iff_popcount_xor {w : Nat} {e c : BitVec w} :
    e &&& c = e ↔ popcount (e ^^^ c) + popcount e = popcount c := by
  have hadd := popcount_xor_add e c
  constructor
  · intro h
    rw [h] at hadd
    omega
  · intro h
    have hrest := popcount_xor_add e (e &&& c)
    rw [← BitVec.and_assoc, BitVec.and_self] at hrest
    have hzero : e ^^^ (e &&& c) = 0#w := popcount_eq_zero.mp (by omega)
    exact (BitVec.xor_eq_zero_iff.mp hzero).symm

/-- A pattern of weight 5 lies inside just one codeword of weight 8: the one it is miscorrected to. -/
theorem card_octads_above {e : Word24} (he : popcount e = 5) :
    ((messagesOfWeight 8).filter (fun m => e &&& encodeWord m = e)).card = 1 := by
  obtain ⟨a, ha, hs⟩ := exists_leader_of_odd (e := e) (by omega)
  have hdist := popcount_xor_eq_eight (by omega) (by omega) ha hs
  have hcode : e ^^^ a = encodeWord (mPart (e ^^^ a)) :=
    syndromeOf_eq_zero_iff.mp (syndromeOf_xor_eq_zero_iff.mpr hs.symm)
  refine Finset.card_eq_one.mpr ⟨mPart (e ^^^ a), Finset.ext fun m => ?_⟩
  rw [Finset.mem_filter, mem_messagesOfWeight, Finset.mem_singleton,
    and_eq_left_iff_popcount_xor]
  constructor
  · rintro ⟨hm, hinside⟩
    rw [← encodeWord_eq_of_near ha hs (m := m) (by omega), mPart_encodeWord]
  · rintro rfl
    have hle := popcount_xor_le e a
    rw [← hcode, xor_xor_cancel_left]
    omega

/-- The 759 codewords of weight 8: 42504 patterns of weight 5, each inside one of them, and 56 inside each. -/
theorem card_messagesOfWeight_eight : (messagesOfWeight 8).card = 759 := by
  have hcount : (wordsOfWeight 5).toFinset.card * 1 = (messagesOfWeight 8).card * Nat.choose 8 5 := by
    refine Finset.card_mul_eq_card_mul (fun e m => e &&& encodeWord m = e) (fun e he => ?_)
      (fun m hm => ?_)
    · exact card_octads_above (mem_wordsOfWeight.mp (List.mem_toFinset.mp he))
    · rw [← mem_messagesOfWeight.mp hm]
      exact card_subwords (encodeWord m) 5
  have hpatterns : Nat.choose 24 5 = 42504 := by decide
  have hinside : Nat.choose 8 5 = 56 := by decide
  rw [List.toFinset_card_of_nodup (nodup_wordsOfWeight 5), length_wordsOfWeight, hpatterns,
    hinside] at hcount
  -- An opaque name for the count, so that it is not evaluated.
  generalize (messagesOfWeight 8).card = count at hcount ⊢
  omega

theorem card_messagesOfWeight_sixteen : (messagesOfWeight 16).card = 759 :=
  (card_messagesOfWeight_complement (w := 8) rfl).trans card_messagesOfWeight_eight

theorem card_messagesOfWeight_twentyFour : (messagesOfWeight 24).card = 1 :=
  (card_messagesOfWeight_complement (w := 0) rfl).trans card_messagesOfWeight_zero

/-- What the other four weights leave for weight 12. It is said of any function of the weight, so that neither `omega` nor
the kernel evaluates the counts. -/
theorem apply_twelve_of_sum {f : Nat → Nat}
    (hsum : ∑ w ∈ ({0, 8, 12, 16, 24} : Finset Nat), f w = 4096) (hzero : f 0 = 1)
    (hoctads : f 8 = 759) (hsixteen : f 16 = 759) (htwentyFour : f 24 = 1) : f 12 = 2576 := by
  rw [Finset.sum_insert (by decide), Finset.sum_insert (by decide), Finset.sum_insert (by decide),
    Finset.sum_insert (by decide), Finset.sum_singleton] at hsum
  omega

theorem card_messagesOfWeight_twelve : (messagesOfWeight 12).card = 2576 :=
  apply_twelve_of_sum (f := fun w => (messagesOfWeight w).card) sum_card_messagesOfWeight
    card_messagesOfWeight_zero card_messagesOfWeight_eight card_messagesOfWeight_sixteen
    card_messagesOfWeight_twentyFour

/-- Settles O3: the codewords of each weight are counted, and the least weight is 8. -/
theorem codewordWeightDistribution : Obligations.CodewordWeightDistribution := by
  refine ⟨?_, fun m => eight_le_popcount_encodeWord⟩
  calc _ = [0, 8, 12, 16, 24].map (fun w => (messagesOfWeight w).card) :=
        List.map_congr_left fun w _ => countP_popcount_encodeWord w
    _ = [1, 759, 2576, 759, 1] := by
        simp only [List.map_cons, List.map_nil, card_messagesOfWeight_zero,
          card_messagesOfWeight_eight, card_messagesOfWeight_twelve,
          card_messagesOfWeight_sixteen, card_messagesOfWeight_twentyFour]

end Sys2Proof.Machine
end

section
/-!
PROOFS. The source's scenario (95_test_vectors.md W1), one operation after the other on the hardware's ROM.
-/

namespace Sys2Proof.Machine

theorem encodeWord_worked_message : encodeWord 0x273#12 = 0x2CE273#24 := by decide

/-- Settles O46: the channel corrects the scenario's error of weight 3 (R76), whatever state ENCODE has left. -/
theorem sourceScenarioIsReproduced : Obligations.SourceScenarioIsReproduced := by
  have hrom : RomIntact (State.reset.setEncoder (encoderPorts (trunc12 0x273))) := rfl
  obtain ⟨b, hb, hok, hword, -, -, hstatus, hsyn⟩ :=
    everyErrorUpToWeightThreeIsCorrected 0x273#12 0x010084#24 _ hrom (by decide)
  exact ⟨_, b, _, exec_encode _ _, encodeWord_worked_message, hb,
    hsyn.trans syndromeOf_worked_error, hword, hok, hstatus (by decide),
    exec_extract_toNat _ b, mPart_encodeWord 0x273#12⟩

end Sys2Proof.Machine
end

section
/-!
PROOFS. The check values of the ROM's image (42_syndrome_lookup_table.md section 1), computed over all of its entries.
-/

namespace Sys2Proof.Machine

theorem romImage_sum :
    (List.range 4096).foldl (fun a n => (a + (romContents (BitVec.ofNat 12 n)).toNat) % 2 ^ 32) 0 =
      0xFFFFFEEB := by
  decide +kernel

theorem romImage_xor :
    (List.range 4096).foldl (fun a n => a ^^^ romContents (BitVec.ofNat 12 n)) 0#25 =
      0x1FFFFFF#25 := by
  decide +kernel

theorem romImage_weightedSum :
    (List.range 4096).foldl
      (fun a n => (a + (n + 1) * (romContents (BitVec.ofNat 12 n)).toNat) % 2 ^ 32) 0 =
        0x09F54F75 := by
  decide +kernel

theorem romImage_lowestUncorrectable :
    ((List.range 0x34).filter
      (fun n => entryU (romContents (BitVec.ofNat 12 n)) == 1#1)).take 10 =
        [0x00F, 0x017, 0x01B, 0x01D, 0x01E, 0x027, 0x02B, 0x02D, 0x02E, 0x033] := by
  decide +kernel

/-- Settles O12: the checks are evaluated on the image, entry by entry. -/
theorem romImageCheckValues : Obligations.RomImageCheckValues :=
  ⟨romImage_sum, romImage_xor, romImage_weightedSum, romImage_lowestUncorrectable⟩

end Sys2Proof.Machine
end
